-- ==== Sys2Proof/Word.lean ====
section
/-! DEFINITION. The word types of TRE (spec/00_scope.md R10): bytes, 16-bit addresses, 32-bit registers and
command words, the 40-bit device time of the radio and its 64-bit storage. -/

namespace Sys2Proof

/-- One byte of a frame, of the rekey payload or of the sink stream. -/
abbrev Byte := BitVec 8

/-- A 16-bit short address (R34). -/
abbrev Half := BitVec 16

/-- A 32-bit host register or a command word (R20, R90). -/
abbrev Word := BitVec 32

/-- Device time as the radio counts it: "40-bit hardware counter" (R12, R258). -/
abbrev Time40 := BitVec 40

/-- A timestamp register's 64 bits, and equally a binary64 pattern (R26, R31). -/
abbrev DWord := BitVec 64

end Sys2Proof
end

