-- ==== Sys2Proof/Syntax.lean ====
section
/-! DEFINITION. The command set of TRE: one constructor for each of the seventeen rows of spec/opcode_table.json
(spec/30_encoding.md R96). An operand is the 8-bit field of the command word, unsigned and unscaled (R98): a value
outside its legal range is a command that faults BAD_OPERAND, not an illegal word (R97). -/

namespace Sys2Proof

inductive Instr where
  | enc32 (ts off : Byte)
  | dec32 (ts off : Byte)
  | txsched (msg : Byte)
  | build (msg : Byte)
  | validate (msg : Byte)
  | tofss
  | tofds
  | pdoacvt
  | durms (tsStart tsEnd : Byte)
  | postkey
  | applykey
  | armcyc
  | seqinc
  | errinc (kind mask : Byte)
  | tsclr
  | deliver
  | run
deriving DecidableEq, Repr, Inhabited

end Sys2Proof
end

