-- ==== Sys2Proof/WellFormed.lean ====
section
/-! DEFINITION. Which operand values the opcode table calls legal, as far as the word alone decides it
(spec/opcode_table.json "operands", spec/30_encoding.md R92 to R95). What depends on the state or the build (a
`DEC32` offset against `RXLEN`, FINAL in SingleSided) is checked when the command executes. A command that is not
well formed still has a meaning: it faults BAD_OPERAND (R97). -/

namespace Sys2Proof

/-- A timestamp register index, "legal 0 to 5" (R92). -/
def legalTs (a : Byte) : Bool := a ≤ 5

/-- A byte offset at which four bytes fit a 24-byte buffer (R82). -/
def legalOff (b : Byte) : Bool := b ≤ 20

/-- A message selector, "0 POLL, 1 RESP, 2 FINAL" (R93). -/
def legalMsg (a : Byte) : Bool := a ≤ 2

/-- An ErrorKind code, "legal 0 to 6" (R95). -/
def legalKind (a : Byte) : Bool := a ≤ 6

/-- The static legality of a command's operands. -/
def Instr.wellFormed : Instr → Bool
  | .enc32 ts off => legalTs ts && legalOff off
  | .dec32 ts off => legalTs ts && legalOff off
  | .txsched msg => legalMsg msg && msg ≠ 0
  | .build msg => legalMsg msg
  | .validate msg => legalMsg msg
  | .tofss => true
  | .tofds => true
  | .pdoacvt => true
  | .durms a b => legalTs a && legalTs b
  | .postkey => true
  | .applykey => true
  | .armcyc => true
  | .seqinc => true
  | .errinc kind _ => legalKind kind
  | .tsclr => true
  | .deliver => true
  | .run => true

end Sys2Proof
end

