-- ==== Sys2Proof/Decode.lean ====
section
/-! DEFINITION. The command word (spec/30_encoding.md R90 to R97): OP in bits 7:0, A in 15:8, B in 23:16, Z in
31:24. Decoding is total: every word is one of the seventeen commands or is rejected by name. -/

namespace Sys2Proof

/-- Bits 7:0, the operation code (R90). -/
def fieldOp (w : Word) : Byte := w.extractLsb' 0 8
/-- Bits 15:8, the first operand (R90). -/
def fieldA (w : Word) : Byte := w.extractLsb' 8 8
/-- Bits 23:16, the second operand (R90). -/
def fieldB (w : Word) : Byte := w.extractLsb' 16 8
/-- Bits 31:24, which must be 0 (R90). -/
def fieldZ (w : Word) : Byte := w.extractLsb' 24 8

/-- Why a word is no command. Each is ILLEGAL_OP to the host (R97 item 2). -/
inductive DecodeError where
  /-- OP is not in the opcode map (R96). -/
  | unknownOp
  /-- Z is not 0 (R90). -/
  | reservedZ
  /-- A is not 0 where the row's format says it is (R91). -/
  | reservedA
  /-- B is not 0 where the row's format says it is (R91, R93). -/
  | reservedB
deriving DecidableEq, Repr

/-- Formats R, T and K: two operand bytes, `Z = 0` (R92, R94, R95). -/
def format2 (w : Word) (mk : Byte → Byte → Instr) : Except DecodeError Instr :=
  if fieldZ w ≠ 0 then .error .reservedZ else .ok (mk (fieldA w) (fieldB w))

/-- Format M: one operand byte, `B = 0`, `Z = 0` (R93). -/
def format1 (w : Word) (mk : Byte → Instr) : Except DecodeError Instr :=
  if fieldZ w ≠ 0 then .error .reservedZ
  else if fieldB w ≠ 0 then .error .reservedB
  else .ok (mk (fieldA w))

/-- Format N: no operand, `A = 0`, `B = 0`, `Z = 0` (R91). -/
def format0 (w : Word) (i : Instr) : Except DecodeError Instr :=
  if fieldZ w ≠ 0 then .error .reservedZ
  else if fieldB w ≠ 0 then .error .reservedB
  else if fieldA w ≠ 0 then .error .reservedA
  else .ok i

/-- The opcode map (R96). -/
def decode (w : Word) : Except DecodeError Instr :=
  match (fieldOp w).toNat with
  | 0x01 => format2 w .enc32
  | 0x02 => format2 w .dec32
  | 0x03 => format1 w .txsched
  | 0x10 => format1 w .build
  | 0x11 => format1 w .validate
  | 0x20 => format0 w .tofss
  | 0x21 => format0 w .tofds
  | 0x22 => format0 w .pdoacvt
  | 0x23 => format2 w .durms
  | 0x30 => format0 w .postkey
  | 0x31 => format0 w .applykey
  | 0x32 => format0 w .armcyc
  | 0x40 => format0 w .seqinc
  | 0x41 => format2 w .errinc
  | 0x42 => format0 w .tsclr
  | 0x43 => format0 w .deliver
  | 0x50 => format0 w .run
  | _ => .error .unknownOp

/-- The command word with the given OP, A and B: `OP | a << 8 | b << 16` (R99). -/
def mkWord (op a b : Byte) : Word := op.setWidth 32 ||| a.setWidth 32 <<< 8 ||| b.setWidth 32 <<< 16

/-- The word of a command (R96, R99). -/
def encode : Instr → Word
  | .enc32 ts off => mkWord 0x01 ts off
  | .dec32 ts off => mkWord 0x02 ts off
  | .txsched msg => mkWord 0x03 msg 0
  | .build msg => mkWord 0x10 msg 0
  | .validate msg => mkWord 0x11 msg 0
  | .tofss => mkWord 0x20 0 0
  | .tofds => mkWord 0x21 0 0
  | .pdoacvt => mkWord 0x22 0 0
  | .durms a b => mkWord 0x23 a b
  | .postkey => mkWord 0x30 0 0
  | .applykey => mkWord 0x31 0 0
  | .armcyc => mkWord 0x32 0 0
  | .seqinc => mkWord 0x40 0 0
  | .errinc kind mask => mkWord 0x41 kind mask
  | .tsclr => mkWord 0x42 0 0
  | .deliver => mkWord 0x43 0 0
  | .run => mkWord 0x50 0 0

/-- The command the decoder reads from an opcode-table word of `nbits` bits (bit 0 least significant, every bit
above `nbits` 0). A command is one 32-bit word (R90), so a value with a bit above 31 is none. -/
def decodeTableWord (nbits w : Nat) : Option Instr :=
  let v := w % 2 ^ nbits
  if v < 2 ^ 32 then (decode (BitVec.ofNat 32 v)).toOption else none

end Sys2Proof
end

