-- ==== Sys2Proof/Ports.lean ====
section
/-! DEFINITION. What crosses TRE's ports (spec/45_external_ports.md): the sixteen radio calls with their arguments,
and the answers the radio may give to those that answer. Types only. -/

namespace Sys2Proof

/-- Four 32-bit words, word 0 first: an STS key or an IV (R34, R182). -/
structure Words4 where
  w0 : Word
  w1 : Word
  w2 : Word
  w3 : Word
deriving DecidableEq, Repr, Inhabited

/-- `CHANNEL_PARAMS`, "opaque to TRE" (R8, R251): an uninterpreted byte string. -/
abbrev ChannelParams := List Byte

/-- The mode of `radio.arm_rx` (R252). -/
inductive RxMode where
  | immediate
  | delayed (t : Word)
deriving DecidableEq, Repr, Inhabited

/-- The mode of `radio.arm_tx` (R253). -/
inductive TxMode where
  | immediate
  | delayed (t : Word)
deriving DecidableEq, Repr, Inhabited

/-- The sixteen operations of the radio port with their arguments (R250 to R265). -/
inductive RadioCall where
  | configure (params : ChannelParams)
  | armRx (mode : RxMode)
  | armTx (mode : TxMode) (expectResponse : Bool)
  | waitStatus (mask : Word)
  | clearStatus (mask : Word)
  | readFrame
  | readTxTimestamp
  | readRxTimestamp
  | readStsQuality
  | writeTxFrame (bytes : List Byte) (len : Nat)
  | setStsKey (key : Words4)
  | setStsIv (iv : Words4)
  | setStsIvLow (v0 : Word)
  | readClockOffset
  | readPdoa
  | setRxParams (rxAfterTxDly rxTimeout preTimeout : Nat)
deriving DecidableEq, Repr

/-- The answer of `radio.configure` (R251). -/
inductive ConfigureAnswer where
  | ok
  | notResponding
  | rejected
deriving DecidableEq, Repr, Inhabited

/-- The answer of `radio.arm_tx(delayed)` (R253). -/
inductive TxAnswer where
  | ok
  | late
deriving DecidableEq, Repr, Inhabited

/-- The answer of `radio.read_sts_quality` (R259): whether the read succeeded, and the i16 quality index. -/
structure StsAnswer where
  ok : Bool
  quality : BitVec 16
deriving DecidableEq, Repr, Inhabited

/-- The answers the radio has ready, one list for each call that answers, oldest first (R250: "chosen by the
environment"). A timestamp is below 2^40 (R258) by its type. The elements of `status` are what the status register
shows each time `wait_status` looks at it (R254). -/
structure RadioAnswers where
  configure : List ConfigureAnswer := []
  armTx : List TxAnswer := []
  status : List Word := []
  sts : List StsAnswer := []
  frame : List (List Byte) := []
  txTime : List Time40 := []
  rxTime : List Time40 := []
  clockOffset : List Word := []
  pdoa : List Half := []
deriving DecidableEq, Repr, Inhabited

end Sys2Proof
end

