-- ==== Sys2Proof/Config.lean ====
section
/-! DEFINITION. The build: every parameter of spec/00_scope.md R8 that is not a fixed constant, as one plain record,
and the free values. `Config.build` is the build of `State.reset`; each of its parameters is an opaque constant
(assumption log 4). The fixed constants of R8 follow at the end. -/

namespace Sys2Proof

/-- `ROLE` (R7): "Fixed per device build; never changes at runtime". -/
inductive Role where
  | initiator
  | responder
deriving DecidableEq, Repr, Inhabited

/-- `VARIANT` (R7). Code 3 of CFG never occurs (R24), so it has no constructor. -/
inductive Variant where
  | singleSided
  | doubleSided
  | doubleSidedSDC
deriving DecidableEq, Repr, Inhabited

/-- A parameter indexed by the variant. -/
structure PerVariant (α : Type) where
  ss : α
  ds : α
  sdc : α
deriving DecidableEq, Repr, Inhabited

/-- The value of a per-variant parameter for one variant. -/
def PerVariant.pick {α : Type} (p : PerVariant α) : Variant → α
  | .singleSided => p.ss
  | .doubleSided => p.ds
  | .doubleSidedSDC => p.sdc

/-- `FC_POLL`, `FC_RESP`, `FC_FINAL` of one variant (R8, R103). SingleSided has no Final, its code is unused. -/
structure FunctionCodes where
  poll : Byte
  resp : Byte
  final : Byte
deriving DecidableEq, Repr, Inhabited

/-- The delay parameters of one variant, in UUS (R8, R9). -/
structure Delays where
  turnaround : Nat
  datarate : Nat
  preamble : Nat
  sts : Nat
  final : Nat
deriving DecidableEq, Repr, Inhabited

/-- The build parameters (R7, R8). -/
structure Config where
  role : Role
  variant : Variant
  codes : PerVariant FunctionCodes
  delays : PerVariant Delays
  uusToDtu : Nat
  txAntDly : BitVec 16
  pollRxTimeout : Nat
  respRxTimeout : Nat
  finalRxTimeout : Nat
  preTimeoutPac : Nat
  pollTxToRespRxDly : Nat
  respTxToFinalRxDly : Nat
  /-- `RNG_DELAY_MS`: acts in no rule (R203). -/
  rngDelayMs : Nat
  /-- `C_MPS` as a binary64 pattern (R163). -/
  cMps : DWord
  clkoffEn : Bool
  pdoaEn : Bool
  durEn : Bool
  channelParams : ChannelParams
  keyReset : Words4
  ivReset : Words4
  srcAddrReset : Half
  dstAddrReset : Half
deriving DecidableEq, Repr, Inhabited

/-- R103: the codes of the messages a variant uses are pairwise different. The build is assumed to satisfy it
(assumption log 5); no rule of TRE checks it. -/
def Config.wellFormed (c : Config) : Bool :=
  c.codes.ss.poll ≠ c.codes.ss.resp &&
  ([c.codes.ds, c.codes.sdc].all fun k => k.poll ≠ k.resp && k.poll ≠ k.final && k.resp ≠ k.final)

namespace Config

/-! The OPEN parameters of the build of `State.reset` (R8): constants with no body, so nothing can be proved of
their values (assumption log 4). -/

opaque roleParam : Role
opaque variantParam : Variant
opaque codesParam : PerVariant FunctionCodes
opaque delaysParam : PerVariant Delays
opaque uusToDtuParam : Nat
opaque txAntDlyParam : BitVec 16
opaque pollRxTimeoutParam : Nat
opaque respRxTimeoutParam : Nat
opaque finalRxTimeoutParam : Nat
opaque preTimeoutPacParam : Nat
opaque pollTxToRespRxDlyParam : Nat
opaque respTxToFinalRxDlyParam : Nat
opaque rngDelayMsParam : Nat
opaque cMpsParam : DWord
opaque clkoffEnParam : Bool
opaque pdoaEnParam : Bool
opaque durEnParam : Bool
opaque channelParamsParam : ChannelParams
opaque keyResetParam : Words4
opaque ivResetParam : Words4
opaque srcAddrResetParam : Half
opaque dstAddrResetParam : Half

/-- The build that `State.reset` carries. -/
def build : Config where
  role := roleParam
  variant := variantParam
  codes := codesParam
  delays := delaysParam
  uusToDtu := uusToDtuParam
  txAntDly := txAntDlyParam
  pollRxTimeout := pollRxTimeoutParam
  respRxTimeout := respRxTimeoutParam
  finalRxTimeout := finalRxTimeoutParam
  preTimeoutPac := preTimeoutPacParam
  pollTxToRespRxDly := pollTxToRespRxDlyParam
  respTxToFinalRxDly := respTxToFinalRxDlyParam
  rngDelayMs := rngDelayMsParam
  cMps := cMpsParam
  clkoffEn := clkoffEnParam
  pdoaEn := pdoaEnParam
  durEn := durEnParam
  channelParams := channelParamsParam
  keyReset := keyResetParam
  ivReset := ivResetParam
  srcAddrReset := srcAddrResetParam
  dstAddrReset := dstAddrResetParam

/-! The free values, each indexed by the counter `env.free` of State (assumption log 2, 8). -/

/-- Sign (bit 51) and payload (bits 50:0) of a quiet NaN: "a model treats them as any quiet NaN" (R165, U5). -/
opaque freeNaN : Nat → BitVec 52

/-- Radio answers when State lists none (R250, U1). -/
opaque freeConfigure : Nat → ConfigureAnswer
opaque freeArmTx : Nat → TxAnswer
opaque freeSts : Nat → StsAnswer
opaque freeFrame : Nat → List Byte
opaque freeTxTime : Nat → Time40
opaque freeRxTime : Nat → Time40
opaque freeClockOffset : Nat → Word
opaque freePdoa : Nat → Half

end Config

/-! The fixed constants of R8. -/

/-- `FRAME_CTRL` (R101). -/
def frameCtrl : Half := 0x8841
/-- `PAN_ID` (R101). -/
def panId : Half := 0xDECA
/-- `COMMON_LEN` (R101). -/
def commonLen : Nat := 10
/-- `FRAME_BUF_LEN` (R41, R42). -/
def frameBufLen : Nat := 24
/-- `DTU_S` as a binary64 pattern (R163). -/
def dtuS : DWord := 0x3DB135183BCE48FA
/-- `PI64`, the binary64 nearest to π (R166). -/
def pi64 : DWord := 0x400921FB54442D18

end Sys2Proof
end

