-- ==== Sys2Proof/Machine/State.lean ====
section
/-! DEFINITION. The state of TRE (spec/10_state.md) as plain data, why a step can stop, and the state after reset
(R49). The fields `cfg` and `env` are the model's own (assumption log 1, 2, 4, 9); every other field is the spec's. -/

namespace Sys2Proof.Machine

/-- `PHASE` (R39), "what this block has in place of a program counter". Codes 9 to 14 never occur. -/
inductive Phase where
  | idle
  | sendPoll
  | awaitPoll
  | awaitResponse
  | sendResponse
  | awaitFinal
  | sendFinal
  | compute
  | init
  | fatal
deriving DecidableEq, Repr, Inhabited

/-- The command fault codes of `STATUS.CMD_FAULT` (R300). -/
inductive CmdFault where
  | noFault
  | illegalOp
  | badOperand
  | tsInvalid
  | busy
  | noResult
deriving DecidableEq, Repr, Inhabited

/-- The ErrorKinds (R281), in the order of their codes 0 to 6. -/
inductive ErrKind where
  | rxTimeout
  | rxError
  | badFrameHeader
  | badStsQuality
  | preambleNotDetected
  | delayedTxTooLate
  | allocationFailure
deriving DecidableEq, Repr, Inhabited

/-- The three messages of an exchange (R11). -/
inductive Msg where
  | poll
  | resp
  | final
deriving DecidableEq, Repr, Inhabited

/-- The names of the timestamp registers `TS[0]` to `TS[5]` (R11, R26). -/
inductive TsReg where
  | pollTx
  | pollRx
  | respTx
  | respRx
  | finalTx
  | finalRx
deriving DecidableEq, Repr, Inhabited

/-- One timestamp register `TS[i]` with its valid bit `TSV[i]` (R26, R27). -/
structure TsSlot where
  value : DWord
  valid : Bool
deriving DecidableEq, Repr, Inhabited

/-- The six timestamp registers (R26). -/
structure TsFile where
  pollTx : TsSlot
  pollRx : TsSlot
  respTx : TsSlot
  respRx : TsSlot
  finalTx : TsSlot
  finalRx : TsSlot
deriving DecidableEq, Repr, Inhabited

/-- `ERRCNT[0..6]` (R37). -/
structure ErrCounters where
  rxTimeout : Word
  rxError : Word
  badFrameHeader : Word
  badStsQuality : Word
  preambleNotDetected : Word
  delayedTxTooLate : Word
  allocationFailure : Word
deriving DecidableEq, Repr, Inhabited

/-- The active SessionKeyMaterial (R34). -/
structure KeyMaterial where
  key : Words4
  iv : Words4
  srcAddr : Half
  dstAddr : Half
deriving DecidableEq, Repr, Inhabited

/-- The rekey mailbox (R35), the addresses as delivered. -/
structure Mailbox where
  valid : Bool
  key : Words4
  iv : Words4
  dest : Half
  src : Half
deriving DecidableEq, Repr, Inhabited

/-- The byte store behind TXBUF, RXBUF and BLOB, keyed by register-space address (R60, R69; assumption log 13).
Canonical form: `Memory.wf` in Machine/Memory.lean. -/
abbrev Memory := List Host.Cell

/-- What the outside may have happen at one step (assumption log 1): a host transaction (R20), a turn of the
sequencer (R200), or reset (R320). -/
inductive Input where
  | hostRead (addr : Nat)
  | hostWrite (addr : Nat) (v : Word)
  | sequencer
  | reset
deriving DecidableEq, Repr, Inhabited

/-- The world at TRE's ports, the model's own record: what is still to come (`inputs`, `answers`), the counter of
the free values, and what has been observed (the radio call trace, the sink stream, the values host reads returned;
R268, R272), oldest first. -/
structure Env where
  inputs : List Input
  answers : RadioAnswers
  free : Nat
  calls : List RadioCall
  sink : List Byte
  readBack : List Word
deriving DecidableEq, Repr, Inhabited

/-- The state of TRE. -/
structure State where
  /-- The build (R7, R8): no step changes it. -/
  cfg : Config
  phase : Phase
  /-- `CTRL.AUTO` (R25). -/
  auto : Bool
  /-- `TS[0..5]` and `TSV` (R26, R27). -/
  ts : TsFile
  kRaw : Word
  pdoaRaw : Half
  dlyTime : Word
  tofDtu : DWord
  tofS : DWord
  distM : DWord
  durMs : DWord
  pdoaDeg : Word
  vok : Bool
  resultValid : Bool
  pdoaValid : Bool
  durValid : Bool
  wrapFlag : Bool
  cmdFault : CmdFault
  firstCycle : Bool
  seq : Byte
  /-- `KEY`, `IV`, `SRC_ADDR`, `DST_ADDR` (R34). -/
  mat : KeyMaterial
  pend : Mailbox
  errCnt : ErrCounters
  rxErrMask : Byte
  fatalCode : Byte
  /-- TXBUF, RXBUF and BLOB (R41 to R43). -/
  mem : Memory
  txLen : BitVec 5
  rxLen : BitVec 10
  env : Env
deriving DecidableEq, Repr, Inhabited

/-- Why the machine stops with a fault. -/
inductive Fault where
  /-- Raised by a host transaction at an address above 0x1B7, which is outside the register port's address range
  (R20). Safe: the spec gives no such transaction, and no state results. -/
  | outsidePort (addr : Nat)
deriving DecidableEq, Repr

/-- Why a step is refused. -/
inductive Refusal where
  /-- Raised by `exec` for an instruction whose meaning is not written. Safe. No arm raises it. -/
  | notModelled (mnemonic : String)
  /-- Raised by a host transaction at an address that is no multiple of 4, which is "not a transaction of this port
  (the model refuses it)" (R70). Safe. -/
  | notATransaction (addr : Nat)
deriving DecidableEq, Repr

/-- The reset state of one build in a given environment (R49, R320). `TS` and the mailbox contents "hold no value";
they are 0 here and nothing can read them (assumption log 6, 7). -/
def State.resetWith (cfg : Config) (env : Env) : State where
  cfg := cfg
  phase := .init
  auto := false
  ts := ⟨⟨0, false⟩, ⟨0, false⟩, ⟨0, false⟩, ⟨0, false⟩, ⟨0, false⟩, ⟨0, false⟩⟩
  kRaw := 0
  pdoaRaw := 0
  dlyTime := 0
  tofDtu := 0
  tofS := 0
  distM := 0
  durMs := 0
  pdoaDeg := 0
  vok := false
  resultValid := false
  pdoaValid := false
  durValid := false
  wrapFlag := false
  cmdFault := .noFault
  firstCycle := true
  seq := 0
  mat := ⟨cfg.keyReset, cfg.ivReset, cfg.srcAddrReset, cfg.dstAddrReset⟩
  pend := ⟨false, ⟨0, 0, 0, 0⟩, ⟨0, 0, 0, 0⟩, 0, 0⟩
  errCnt := ⟨0, 0, 0, 0, 0, 0, 0⟩
  rxErrMask := 0
  fatalCode := 0
  mem := []
  txLen := 0
  rxLen := 0
  env := env

/-- An environment in which nothing has happened and nothing is announced (assumption log 9). -/
def Env.quiet : Env := ⟨[], ⟨[], [], [], [], [], [], [], [], []⟩, 0, [], [], []⟩

/-- TRE right after reset (R49), with the build `Config.build`. -/
def State.reset : State := State.resetWith Config.build Env.quiet

end Sys2Proof.Machine
end

