-- ==== Sys2Proof/Machine/Bits.lean ====
section
/-! DEFINITION. Byte order and bit fields (spec/00_scope.md R10, spec/20_memory.md R65 to R69): little-endian words
of timestamp fields, header fields, host registers and the result message; big-endian words of the rekey payload. -/

namespace Sys2Proof.Machine

/-- Byte `i` of a value, byte 0 the least significant. -/
def byteOf {n : Nat} (v : BitVec n) (i : Nat) : Byte := v.extractLsb' (8 * i) 8

/-- `le32(b0,b1,b2,b3) = {b3,b2,b1,b0}` (R10). -/
def le32 (b0 b1 b2 b3 : Byte) : Word := (b3 ++ b2) ++ (b1 ++ b0)

/-- `be32(b0,b1,b2,b3) = {b0,b1,b2,b3}` (R10). -/
def be32 (b0 b1 b2 b3 : Byte) : Word := (b0 ++ b1) ++ (b2 ++ b3)

/-- `be16(b0,b1) = {b0,b1}` (R10, R67). -/
def be16 (b0 b1 : Byte) : Half := b0 ++ b1

/-- The four bytes of a word, little-endian (R65, R69). -/
def bytes32 (v : Word) : List Byte := [byteOf v 0, byteOf v 1, byteOf v 2, byteOf v 3]

/-- The eight bytes of a binary64 pattern, little-endian (R68). -/
def bytes64 (v : DWord) : List Byte :=
  [byteOf v 0, byteOf v 1, byteOf v 2, byteOf v 3, byteOf v 4, byteOf v 5, byteOf v 6, byteOf v 7]

/-- `trunc_32` of a timestamp register (R10). -/
def trunc32 (v : DWord) : Word := v.extractLsb' 0 32

/-- `trunc_40` of a timestamp register (R10). -/
def trunc40 (v : DWord) : Time40 := v.extractLsb' 0 40

/-- Bits 63:32 of a 64-bit quantity, the register at the higher address (R20). -/
def hi32 (v : DWord) : Word := v.extractLsb' 32 32

/-- A 64-bit quantity from its two registers. -/
def join64 (hi lo : Word) : DWord := hi ++ lo

end Sys2Proof.Machine
end

