-- ==== Sys2Proof/Machine/Memory.lean ====
section
/-! DEFINITION. The byte store behind the three buffers (spec/20_memory.md R60 to R63, R69; spec/10_state.md R41 to
R43): addresses are register-space addresses, so that "a buffer byte has one value whichever way it is reached". An
unlisted address reads 0, the reset contents of every buffer byte (R49; assumption log 13). -/

namespace Sys2Proof.Machine

/-- What an unlisted address reads as: "all bytes 0" (R41 to R43, R49). -/
def unlistedByte : Byte := 0

/-- The canonical form: addresses strictly rising, no entry equal to what an unlisted address reads as. -/
def Memory.wf : Memory → Bool
  | [] => true
  | [c] => c.2 ≠ unlistedByte
  | c :: d :: rest => c.2 ≠ unlistedByte && c.1 < d.1 && Memory.wf (d :: rest)

/-- The byte at an address. -/
def Memory.read : Memory → Nat → Byte
  | [], _ => unlistedByte
  | c :: rest, a => if c.1 = a then c.2 else Memory.read rest a

/-- The store with one byte changed, in canonical form. -/
def Memory.write : Memory → Nat → Byte → Memory
  | [], a, b => if b = unlistedByte then [] else [(a, b)]
  | c :: rest, a, b =>
    if a < c.1 then (if b = unlistedByte then c :: rest else (a, b) :: c :: rest)
    else if a = c.1 then (if b = unlistedByte then rest else (a, b) :: rest)
    else c :: Memory.write rest a b

/-- The store with the bytes `bs` at `a`, `a + 1`, … -/
def Memory.writeBytes (m : Memory) (a : Nat) : List Byte → Memory
  | [] => m
  | b :: bs => Memory.writeBytes (m.write a b) (a + 1) bs

/-- The `n` bytes at `a`, `a + 1`, … -/
def Memory.readBytes (m : Memory) (a : Nat) : Nat → List Byte
  | 0 => []
  | n + 1 => m.read a :: Memory.readBytes m (a + 1) n

/-- The three buffers (R60). -/
inductive Buf where
  | blob
  | tx
  | rx
deriving DecidableEq, Repr

/-- The register-space address of a buffer's byte 0 (R21). -/
def Buf.base : Buf → Nat
  | .blob => 0x140
  | .tx => 0x180
  | .rx => 0x1A0

/-- The size of a buffer in bytes (R60). -/
def Buf.size : Buf → Nat
  | .blob => 36
  | .tx => 24
  | .rx => 24

/-- Whether an address is a byte of the buffer. -/
def Buf.holds (b : Buf) (a : Nat) : Bool := b.base ≤ a && a < b.base + b.size

/-- Every listed address is a byte of one of the three buffers. -/
def Memory.inBuffers (m : Memory) : Bool :=
  m.all fun c => Buf.blob.holds c.1 || Buf.tx.holds c.1 || Buf.rx.holds c.1

/-- `MemRead(BUF, off, n)` (R62). -/
def memRead (m : Memory) (b : Buf) (off n : Nat) : List Byte := m.readBytes (b.base + off) n

/-- `MemWrite(BUF, off, n, bytes)` (R63), `n` the number of bytes given. -/
def memWrite (m : Memory) (b : Buf) (off : Nat) (bytes : List Byte) : Memory := m.writeBytes (b.base + off) bytes

/-- Byte `i` of a buffer. -/
def bufByte (m : Memory) (b : Buf) (i : Nat) : Byte := m.read (b.base + i)

/-- The little-endian word at a register-space address (R69). -/
def memWord (m : Memory) (a : Nat) : Word := le32 (m.read a) (m.read (a + 1)) (m.read (a + 2)) (m.read (a + 3))

/-- Store a host word at a register-space address, little-endian (R69). -/
def memSetWord (m : Memory) (a : Nat) (v : Word) : Memory := m.writeBytes a (bytes32 v)

end Sys2Proof.Machine
end

