-- ==== Sys2Proof/Machine/Operands.lean ====
section
/-! DEFINITION. The operands of commands (spec/30_encoding.md R92 to R98): register indices, message selectors and
ErrorKind codes turned into names, the range checks of R97 item 4, and the quantities a message selector stands for
(frame length, function code, embedded timestamps, reply delay). -/

namespace Sys2Proof.Machine

/-- The index of a timestamp register (R11). -/
def TsReg.index : TsReg → Nat
  | .pollTx => 0
  | .pollRx => 1
  | .respTx => 2
  | .respRx => 3
  | .finalTx => 4
  | .finalRx => 5

/-- The timestamp register a field value names, if it is legal (R92). -/
def tsReg? (a : Byte) : Option TsReg :=
  match a.toNat with
  | 0 => some .pollTx
  | 1 => some .pollRx
  | 2 => some .respTx
  | 3 => some .respRx
  | 4 => some .finalTx
  | 5 => some .finalRx
  | _ => none

/-- The message a selector names, if it is legal (R93). -/
def msg? (a : Byte) : Option Msg :=
  match a.toNat with
  | 0 => some .poll
  | 1 => some .resp
  | 2 => some .final
  | _ => none

/-- The code of an ErrorKind (R281). -/
def ErrKind.code : ErrKind → Nat
  | .rxTimeout => 0
  | .rxError => 1
  | .badFrameHeader => 2
  | .badStsQuality => 3
  | .preambleNotDetected => 4
  | .delayedTxTooLate => 5
  | .allocationFailure => 6

/-- The ErrorKind a code names, if it is legal (R95). -/
def errKind? (a : Byte) : Option ErrKind :=
  match a.toNat with
  | 0 => some .rxTimeout
  | 1 => some .rxError
  | 2 => some .badFrameHeader
  | 3 => some .badStsQuality
  | 4 => some .preambleNotDetected
  | 5 => some .delayedTxTooLate
  | 6 => some .allocationFailure
  | _ => none

/-- A register operand: an index above 5 is BAD_OPERAND (R97). -/
def tsOperand (a : Byte) : Except CmdFault TsReg :=
  match tsReg? a with
  | some r => .ok r
  | none => .error .badOperand

/-- A message operand: a selector above 2 is BAD_OPERAND (R97). -/
def msgOperand (a : Byte) : Except CmdFault Msg :=
  match msg? a with
  | some m => .ok m
  | none => .error .badOperand

/-- An ErrorKind operand: a code above 6 is BAD_OPERAND (R97). -/
def kindOperand (a : Byte) : Except CmdFault ErrKind :=
  match errKind? a with
  | some k => .ok k
  | none => .error .badOperand

/-- FINAL does not exist in SingleSided (R106). -/
def msgExists (c : Config) (m : Msg) : Bool := !(m = .final && c.variant = .singleSided)

/-- `FRAME_LEN(msg)`, checksum included (R106). -/
def frameLen : Msg → Nat
  | .poll => 12
  | .resp => 20
  | .final => 24

/-- `FC(msg, VARIANT)` (R103). -/
def functionCode (c : Config) (m : Msg) : Byte :=
  let k := c.codes.pick c.variant
  match m with
  | .poll => k.poll
  | .resp => k.resp
  | .final => k.final

/-- The timestamps a frame carries with their offsets (R107 to R109). -/
def embedded : Msg → List (TsReg × Nat)
  | .poll => []
  | .resp => [(.pollRx, 10), (.respTx, 14)]
  | .final => [(.pollTx, 10), (.respRx, 14), (.finalTx, 18)]

/-- `RESP_DLY_DTU(VARIANT)`, an exact natural (R9). -/
def respDlyDtu (c : Config) : Nat :=
  let d := c.delays.pick c.variant
  (d.turnaround + d.datarate + d.preamble + d.sts) * c.uusToDtu

/-- `FINAL_DLY_DTU(VARIANT)`, an exact natural (R9). -/
def finalDlyDtu (c : Config) : Nat := (c.delays.pick c.variant).final * c.uusToDtu

/-- `OUTBOUND(msg)`: this device is the sender of `msg` (R141). -/
def outbound (c : Config) (m : Msg) : Bool :=
  match c.role, m with
  | .initiator, .poll => true
  | .initiator, .resp => false
  | .initiator, .final => true
  | .responder, .poll => false
  | .responder, .resp => true
  | .responder, .final => false

end Sys2Proof.Machine
end

