-- ==== Sys2Proof/Machine/Flags.lean ====
section
/-! DEFINITION. Flags and status words (spec/10_state.md R23, R24, R27, R39, R40): the words STATUS, CFG and TSV, the
wrap check (spec/42_tof.md R173), the classification of a radio status word (spec/44_sequencer.md R206) and the STS
acceptance (spec/45_external_ports.md R259). No arithmetic operation has a carry, overflow, zero or sign flag. -/

namespace Sys2Proof.Machine

/-- The code of a phase (R39). -/
def Phase.code : Phase → BitVec 4
  | .idle => 0
  | .sendPoll => 1
  | .awaitPoll => 2
  | .awaitResponse => 3
  | .sendResponse => 4
  | .awaitFinal => 5
  | .sendFinal => 6
  | .compute => 7
  | .init => 8
  | .fatal => 15

/-- `BUSY`: "1 iff PHASE is neither Idle (0) nor Fatal (15)" (R23). -/
def Phase.busy (p : Phase) : Bool := p ≠ .idle && p ≠ .fatal

/-- The code of a command fault (R300). -/
def CmdFault.code : CmdFault → BitVec 4
  | .noFault => 0
  | .illegalOp => 1
  | .badOperand => 2
  | .tsInvalid => 3
  | .busy => 4
  | .noResult => 5

/-- The word STATUS reads as (R23), from bit 31 down. -/
def statusWord (s : State) : Word :=
  0#12 ++ s.cmdFault.code ++ 0#3 ++ BitVec.ofBool s.wrapFlag ++ BitVec.ofBool (s.phase = .fatal)
    ++ BitVec.ofBool s.firstCycle ++ BitVec.ofBool s.pend.valid ++ BitVec.ofBool s.durValid
    ++ BitVec.ofBool s.pdoaValid ++ BitVec.ofBool s.resultValid ++ BitVec.ofBool s.vok
    ++ BitVec.ofBool s.phase.busy ++ s.phase.code

/-- The code of the variant (R24). -/
def Variant.code : Variant → BitVec 2
  | .singleSided => 0
  | .doubleSided => 1
  | .doubleSidedSDC => 2

/-- The word CFG reads as (R24). -/
def cfgWord (c : Config) : Word :=
  0#26 ++ BitVec.ofBool c.durEn ++ BitVec.ofBool c.pdoaEn ++ BitVec.ofBool c.clkoffEn ++ Variant.code c.variant
    ++ BitVec.ofBool (c.role = .responder)

/-- The word TSV reads as, valid bit `i` in bit `i` (R27). -/
def tsvWord (t : TsFile) : Word :=
  0#26 ++ BitVec.ofBool t.finalRx.valid ++ BitVec.ofBool t.finalTx.valid ++ BitVec.ofBool t.respRx.valid
    ++ BitVec.ofBool t.respTx.valid ++ BitVec.ofBool t.pollRx.valid ++ BitVec.ofBool t.pollTx.valid

/-- `LONG40(a, b)`: the 40-bit interval from `b` to `a` is 2^32 or more (R173). -/
def long40 (a b : DWord) : Bool := 2 ^ 32 ≤ (trunc40 a - trunc40 b).toNat

/-- `TX_DONE` of the radio status word (R255). -/
def txDoneMask : Word := 0x00000001

/-- `RXMASK` (R206): RX_FRAME_GOOD, RX_TIMEOUT, PREAMBLE_TIMEOUT, RX_ERR. -/
def rxMask : Word := 0x0000FF0E

/-- What a receive status is classified as (R206). -/
inductive RxStatus where
  | good
  | bad (kind : ErrKind) (mask : Byte)
deriving DecidableEq, Repr

/-- `CLASSIFY(st)` (R206, R293). -/
def classify (st : Word) : RxStatus :=
  if st.getLsbD 1 then .good
  else if st.getLsbD 2 then .bad .rxTimeout 0
  else if st.getLsbD 3 then .bad .preambleNotDetected 0
  else .bad .rxError (st.extractLsb' 8 8)

/-- TRE accepts the STS "iff ok and q >= 0" (R259). -/
def stsAccepted (a : StsAnswer) : Bool := a.ok && 0 ≤ a.quality.toInt

end Sys2Proof.Machine
end

