-- ==== Sys2Proof/Machine/Float.lean ====
section
/-! DEFINITION. IEEE-754 arithmetic on bit patterns (spec/42_tof.md R170): binary64 add, subtract, multiply and
divide, the exact conversions of integers to binary64, and binary64 to binary32. Each operation converts its operands
to exact numbers, computes exactly, and rounds once: to nearest, ties to even, subnormals kept, no flags. An
operation whose result is a NaN answers `canonicalNaN`; which quiet NaN a register receives is a free value
(`settleNaN`, assumption log 8). -/

namespace Sys2Proof.Machine

/-- A binary floating-point number, exactly: `fin neg m e` is `± m × 2^e`. -/
inductive Fp where
  | nan
  | inf (neg : Bool)
  | fin (neg : Bool) (m : Nat) (e : Int)
deriving DecidableEq, Repr

/-- An interchange format: precision in bits, width of the exponent field. -/
structure FpFormat where
  prec : Nat
  expBits : Nat
deriving DecidableEq, Repr

def binary64 : FpFormat := ⟨53, 11⟩
def binary32 : FpFormat := ⟨24, 8⟩

/-- The exponent of the least subnormal: -1074 for binary64, -149 for binary32. -/
def FpFormat.eMin (f : FpFormat) : Int := 3 - 2 ^ (f.expBits - 1) - f.prec

/-- The exponent field of infinities and NaNs. -/
def FpFormat.expTop (f : FpFormat) : Nat := 2 ^ f.expBits - 1

/-- The pattern, without its sign, of infinity. -/
def FpFormat.infMag (f : FpFormat) : Nat := f.expTop * 2 ^ (f.prec - 1)

/-- Quotient rounded to nearest, ties to even. -/
def divRne (n d : Nat) : Nat :=
  let q := n / d
  let r := n % d
  if 2 * r > d || (2 * r = d && q % 2 = 1) then q + 1 else q

/-- `n / d × 2^k` for an integer `k` as a quotient of naturals. -/
def scaleQuot (n d : Nat) (k : Int) : Nat × Nat :=
  if 0 ≤ k then (n * 2 ^ k.toNat, d) else (n, d * 2 ^ (-k).toNat)

/-- The floor of the binary logarithm of `n / d`, for positive `n` and `d`. -/
def log2Quot (n d : Nat) : Int :=
  let k : Int := (n.log2 : Int) - (d.log2 : Int)
  let s := scaleQuot n d (-k)
  if s.1 < s.2 then k - 1 else k

/-- The magnitude pattern of `n / d × 2^e` rounded to nearest even, for positive `n` and `d`; overflow gives the
pattern of infinity. The exponent of the last significand bit is `max eMin (⌊log2⌋ + 1 - prec)`; counting patterns
from the least subnormal makes a carry out of the significand the next exponent. -/
def roundMag (f : FpFormat) (n d : Nat) (e : Int) : Nat :=
  let t := max f.eMin (log2Quot n d + e + 1 - f.prec)
  let s := scaleQuot n d (e - t)
  min f.infMag ((t - f.eMin).toNat * 2 ^ (f.prec - 1) + divRne s.1 s.2)

/-- The full pattern with its sign bit. -/
def withSign (f : FpFormat) (neg : Bool) (mag : Nat) : Nat :=
  mag + (if neg then 2 ^ (f.prec - 1 + f.expBits) else 0)

/-- `± n / d × 2^e` rounded into a pattern; zero keeps its sign. -/
def roundQuot (f : FpFormat) (neg : Bool) (n d : Nat) (e : Int) : Nat :=
  withSign f neg (if n = 0 then 0 else roundMag f n d e)

/-- The quiet NaN the operations answer. -/
def canonicalNaN : DWord := 0x7FF8000000000000

/-- The exact number a binary64 pattern stands for. -/
def unpack64 (v : DWord) : Fp :=
  let neg := v.getLsbD 63
  let ex := (v.extractLsb' 52 11).toNat
  let fr := (v.extractLsb' 0 52).toNat
  if ex = 2047 then (if fr = 0 then .inf neg else .nan)
  else if ex = 0 then .fin neg fr (-1074)
  else .fin neg (2 ^ 52 + fr) ((ex : Int) - 1075)

/-- Whether a binary64 pattern is a NaN. -/
def isNaN64 (v : DWord) : Bool := decide (unpack64 v = .nan)

/-- A binary64 pattern from a natural. -/
def pattern64 (n : Nat) : DWord := BitVec.ofNat 64 n

/-- `± n / d × 2^e` rounded to binary64. -/
def round64 (neg : Bool) (n d : Nat) (e : Int) : DWord := pattern64 (roundQuot binary64 neg n d e)

/-- The pattern of an infinity. -/
def inf64 (neg : Bool) : DWord := pattern64 (withSign binary64 neg binary64.infMag)

/-- A sign and a natural as an integer. -/
def signed (neg : Bool) (m : Nat) : Int := if neg then -(m : Int) else m

/-- The exact sum of two finite numbers, rounded once. A zero sum is `-0` only when both addends are negative. -/
def addFin (na : Bool) (ma : Nat) (ea : Int) (nb : Bool) (mb : Nat) (eb : Int) : DWord :=
  let e := min ea eb
  let v := signed na (ma * 2 ^ (ea - e).toNat) + signed nb (mb * 2 ^ (eb - e).toNat)
  round64 (if v = 0 then na && nb else decide (v < 0)) v.natAbs 1 e

/-- `fadd` (R10, R170). -/
def fadd (a b : DWord) : DWord :=
  match unpack64 a, unpack64 b with
  | .nan, _ => canonicalNaN
  | _, .nan => canonicalNaN
  | .inf x, .inf y => if x = y then inf64 x else canonicalNaN
  | .inf x, .fin .. => inf64 x
  | .fin .., .inf y => inf64 y
  | .fin na ma ea, .fin nb mb eb => addFin na ma ea nb mb eb

/-- Sign reversal. -/
def fneg (a : DWord) : DWord := a ^^^ 0x8000000000000000

/-- `fsub` (R10, R170). -/
def fsub (a b : DWord) : DWord := fadd a (fneg b)

/-- `fmul` (R10, R170). -/
def fmul (a b : DWord) : DWord :=
  match unpack64 a, unpack64 b with
  | .nan, _ => canonicalNaN
  | _, .nan => canonicalNaN
  | .inf x, .inf y => inf64 (x != y)
  | .inf x, .fin nb mb _ => if mb = 0 then canonicalNaN else inf64 (x != nb)
  | .fin na ma _, .inf y => if ma = 0 then canonicalNaN else inf64 (na != y)
  | .fin na ma ea, .fin nb mb eb => round64 (na != nb) (ma * mb) 1 (ea + eb)

/-- `fdiv` (R10, R170): 0/0 is a NaN (R165). -/
def fdiv (a b : DWord) : DWord :=
  match unpack64 a, unpack64 b with
  | .nan, _ => canonicalNaN
  | _, .nan => canonicalNaN
  | .inf _, .inf _ => canonicalNaN
  | .inf x, .fin nb _ _ => inf64 (x != nb)
  | .fin na _ _, .inf y => pattern64 (withSign binary64 (na != y) 0)
  | .fin na ma ea, .fin nb mb eb =>
    if mb = 0 then (if ma = 0 then canonicalNaN else inf64 (na != nb))
    else round64 (na != nb) ma mb (ea - eb)

/-- A natural as binary64: `f64_of_u32` and `f64_of_u40`, exact below 2^53 (R10, R170). -/
def f64OfNat (n : Nat) : DWord := round64 false n 1 0

/-- An integer as binary64: `f64_of_i32` and `f64_of_i16`, exact (R162, R166). -/
def f64OfInt (i : Int) : DWord := round64 (decide (i < 0)) i.natAbs 1 0

/-- `f32_of_f64`, to nearest even (R10, R166). -/
def f32OfF64 (a : DWord) : Word :=
  match unpack64 a with
  | .nan => 0x7FC00000
  | .inf x => BitVec.ofNat 32 (withSign binary32 x binary32.infMag)
  | .fin n m e => BitVec.ofNat 32 (roundQuot binary32 n m 1 e)

/-- The quiet NaN with the given sign (bit 51) and payload (bits 50:0). -/
def quietNaN (choice : BitVec 52) : DWord :=
  (choice.extractLsb' 51 1 ++ 0xFFF#12) ++ choice.extractLsb' 0 51

/-- Put the chosen quiet NaN in place of a NaN; any other pattern stays (R165: "any quiet NaN"). -/
def settleNaN (choice : BitVec 52) (v : DWord) : DWord := if isNaN64 v then quietNaN choice else v

end Sys2Proof.Machine
end

