-- ==== Sys2Proof/Machine/Ops.lean ====
section
/-! DEFINITION. The named operations over the registers, and the three ways TRE takes an abnormal event
(spec/60_exceptions.md R280): a command fault (R300), a ranging error (R290), the fatal error (R296). There is no
return instruction (R291): the way back from a ranging error is the next cycle start, from a fatal error only reset. -/

namespace Sys2Proof.Machine

/-! Timestamp registers (R26, R27). -/

/-- The slot of a timestamp register. -/
def TsFile.get (t : TsFile) : TsReg → TsSlot
  | .pollTx => t.pollTx
  | .pollRx => t.pollRx
  | .respTx => t.respTx
  | .respRx => t.respRx
  | .finalTx => t.finalTx
  | .finalRx => t.finalRx

/-- The file with one slot replaced. -/
def TsFile.put (t : TsFile) (r : TsReg) (x : TsSlot) : TsFile :=
  match r with
  | .pollTx => { t with pollTx := x }
  | .pollRx => { t with pollRx := x }
  | .respTx => { t with respTx := x }
  | .respRx => { t with respRx := x }
  | .finalTx => { t with finalTx := x }
  | .finalRx => { t with finalRx := x }

/-- The 64 bits of `TS[r]`. -/
def tsVal (s : State) (r : TsReg) : DWord := (s.ts.get r).value

/-- `TSV[r]`. -/
def tsValid (s : State) (r : TsReg) : Bool := (s.ts.get r).valid

/-- All the named registers are valid. -/
def tsAllValid (s : State) (rs : List TsReg) : Bool := rs.all (tsValid s)

/-- `TS[r] <- v`: writes the register and sets its valid bit (R10). -/
def setTs (s : State) (r : TsReg) (v : DWord) : State := { s with ts := s.ts.put r ⟨v, true⟩ }

/-- Read registers: TS_INVALID when one of them is invalid (R27, R300). -/
def needTs (s : State) (rs : List TsReg) : Except CmdFault Unit :=
  if tsAllValid s rs then .ok () else .error .tsInvalid

/-- TSCLR's effect (R232): all valid bits 0, contents unreadable. -/
def clearTs (s : State) : State :=
  { s with ts :=
      { pollTx := { s.ts.pollTx with valid := false }
        pollRx := { s.ts.pollRx with valid := false }
        respTx := { s.ts.respTx with valid := false }
        respRx := { s.ts.respRx with valid := false }
        finalTx := { s.ts.finalTx with valid := false }
        finalRx := { s.ts.finalRx with valid := false } } }

/-! Buffers. -/

/-- The state with bytes stored in a buffer (R63). -/
def storeBytes (s : State) (b : Buf) (off : Nat) (bytes : List Byte) : State :=
  { s with mem := memWrite s.mem b off bytes }

/-! Counters (R33, R37). -/

/-- SEQINC's effect (R230). -/
def bumpSeq (s : State) : State := { s with seq := s.seq + 1 }

/-- The counter of an ErrorKind. -/
def ErrCounters.get (c : ErrCounters) : ErrKind → Word
  | .rxTimeout => c.rxTimeout
  | .rxError => c.rxError
  | .badFrameHeader => c.badFrameHeader
  | .badStsQuality => c.badStsQuality
  | .preambleNotDetected => c.preambleNotDetected
  | .delayedTxTooLate => c.delayedTxTooLate
  | .allocationFailure => c.allocationFailure

/-- The counters with one advanced by 1 modulo 2^32 (R37). -/
def ErrCounters.bump (c : ErrCounters) : ErrKind → ErrCounters
  | .rxTimeout => { c with rxTimeout := c.rxTimeout + 1 }
  | .rxError => { c with rxError := c.rxError + 1 }
  | .badFrameHeader => { c with badFrameHeader := c.badFrameHeader + 1 }
  | .badStsQuality => { c with badStsQuality := c.badStsQuality + 1 }
  | .preambleNotDetected => { c with preambleNotDetected := c.preambleNotDetected + 1 }
  | .delayedTxTooLate => { c with delayedTxTooLate := c.delayedTxTooLate + 1 }
  | .allocationFailure => { c with allocationFailure := c.allocationFailure + 1 }

/-- ERRINC's effect (R231): count; for RxError also keep the bitmask. -/
def countError (s : State) (k : ErrKind) (mask : Byte) : State :=
  { s with
    errCnt := s.errCnt.bump k
    rxErrMask := if k = .rxError then mask else s.rxErrMask }

/-! Abnormal events. -/

/-- `raise CmdFault(code)` (R300): CMD_FAULT and nothing else. -/
def raiseCmdFault (s : State) (c : CmdFault) : State := { s with cmdFault := c }

/-- `raise Err(kind)`, the error entry (R290): count, discard the TimestampSet, go to Idle. Nothing is saved. -/
def raiseErr (s : State) (k : ErrKind) (mask : Byte) : State :=
  { clearTs (countError s k mask) with phase := .idle }

/-- `raise Fatal(code)` (R296). -/
def raiseFatal (s : State) (code : Byte) : State := { s with fatalCode := code, phase := .fatal }

/-- What is left of a sequencer step that would raise a command fault: the state the step began in. R27 says that
such a step "changes no other state", R200 and R300 that a sequencer step leaves CMD_FAULT alone (assumption
log 10). No run reaches it (R300: "The sequencer's own uses of the commands never fault"). -/
def seqCmdFault (began : State) (_ : CmdFault) : State := began

/-- The end of a sequencer step made of commands: what it reached, or `seqCmdFault`. -/
def seqOutcome (began : State) : Except CmdFault State → State
  | .ok t => t
  | .error c => seqCmdFault began c

/-- Cycle end (R213). -/
def endCycle (s : State) : State := { clearTs s with phase := .idle }

/-- The reset event (R320): "give every item of state the value" of R49. The environment goes on (assumption
log 11). -/
def resetEvent (s : State) : State := State.resetWith s.cfg s.env

/-! Commands (R97, R300). -/

/-- A command's effect, or the fault it raises. -/
def finishCommand (s : State) : Except CmdFault State → State
  | .ok t => { t with cmdFault := .noFault }
  | .error c => raiseCmdFault s c

/-- A command accepted only in Idle: dropped in Fatal, BUSY in every other phase (R97 items 1 and 3). -/
def idleCommand (s : State) (effect : State → Except CmdFault State) : State :=
  if s.phase = .fatal then s
  else if s.phase ≠ .idle then raiseCmdFault s .busy
  else finishCommand s (effect s)

/-- A command accepted in every phase but Fatal (R97; POSTKEY, R181). -/
def anytimeCommand (s : State) (effect : State → Except CmdFault State) : State :=
  if s.phase = .fatal then s else finishCommand s (effect s)

/-! The free values and the sink. -/

/-- Give three result registers' values, each with a free quiet NaN in place of a NaN (R165), and advance the
counter of the free values. -/
def setResults (s : State) (dtu : DWord) : State :=
  let n := s.env.free
  let d := settleNaN (Config.freeNaN n) dtu
  let t := settleNaN (Config.freeNaN (n + 1)) (fmul d dtuS)
  let m := settleNaN (Config.freeNaN (n + 2)) (fmul t s.cfg.cMps)
  { s with
    tofDtu := d
    tofS := t
    distM := m
    resultValid := true
    env := { s.env with free := n + 3 } }

/-- `sink.emit` (R268). -/
def emit (s : State) (bytes : List Byte) : State :=
  { s with env := { s.env with sink := s.env.sink ++ bytes } }

end Sys2Proof.Machine
end

