-- ==== Sys2Proof/Machine/Codec.lean ====
section
/-! DEFINITION. The Timestamp Codec commands ENC32 and DEC32 (spec/40_codec.md). An effect is a command's pseudocode
without its last assignment `CMD_FAULT <- 0`, so that the sequencer can perform it too (R200). -/

namespace Sys2Proof.Machine

/-- The field ENC32 writes: the low 32 bits of a timestamp, little-endian (R65, R130). -/
def encField (v : DWord) : List Byte := bytes32 (trunc32 v)

/-- ENC32 on a named register (R130, R82). -/
def enc32Effect (r : TsReg) (off : Nat) (s : State) : Except CmdFault State := do
  if off + 4 > frameBufLen then throw .badOperand
  needTs s [r]
  return storeBytes s .tx off (encField (tsVal s r))

/-- How far DEC32 may read: `min(RXLEN, 24)` (R82, R131). -/
def rxReadable (s : State) : Nat := min s.rxLen.toNat frameBufLen

/-- The u32 DEC32 reads: `le32` of four bytes of RXBUF (R131). -/
def decField (s : State) (off : Nat) : Word :=
  le32 (bufByte s.mem .rx off) (bufByte s.mem .rx (off + 1)) (bufByte s.mem .rx (off + 2)) (bufByte s.mem .rx (off + 3))

/-- DEC32 on a named register (R131, R82). -/
def dec32Effect (r : TsReg) (off : Nat) (s : State) : Except CmdFault State := do
  if off + 4 > rxReadable s then throw .badOperand
  return setTs s r ((decField s off).setWidth 64)

/-- `EXTRACT msg` (R100): DEC32 of every timestamp the frame carries, in order of offset. -/
def extractEffect (s : State) : List (TsReg × Nat) → Except CmdFault State
  | [] => .ok s
  | (r, off) :: rest => do extractEffect (← dec32Effect r off s) rest

/-- `ENC32 ts, off` (R130). -/
def execEnc32 (ts off : Byte) (s : State) : Host.Outcome State Fault Refusal :=
  .next (idleCommand s fun s => do enc32Effect (← tsOperand ts) off.toNat s)

/-- `DEC32 ts, off` (R131). -/
def execDec32 (ts off : Byte) (s : State) : Host.Outcome State Fault Refusal :=
  .next (idleCommand s fun s => do dec32Effect (← tsOperand ts) off.toNat s)

end Sys2Proof.Machine
end

