-- ==== Sys2Proof/Machine/Catalog.lean ====
section
/-! DEFINITION. The Frame Catalog commands BUILD and VALIDATE (spec/41_frame_catalog.md, spec/30_encoding.md R101 to
R111). -/

namespace Sys2Proof.Machine

/-- `TEMPLATE(msg)`: the ten header bytes with a zero sequence number (R140, R141). -/
def template (c : Config) (k : KeyMaterial) (m : Msg) : List Byte :=
  let dst := if outbound c m then k.dstAddr else k.srcAddr
  let src := if outbound c m then k.srcAddr else k.dstAddr
  [byteOf frameCtrl 0, byteOf frameCtrl 1, 0, byteOf panId 0, byteOf panId 1,
   byteOf dst 0, byteOf dst 1, byteOf src 0, byteOf src 1, functionCode c m]

/-- A message operand that exists in this variant; FINAL in SingleSided is BAD_OPERAND (R97). -/
def needMsg (c : Config) (m : Msg) : Except CmdFault Unit :=
  if msgExists c m then .ok () else .error .badOperand

/-- Write the timestamp fields of a frame at their offsets, as ENC32 does (R142). -/
def embedTs (s : State) : List (TsReg × Nat) → Memory
  | [] => s.mem
  | (r, off) :: rest => embedTs (storeBytes s .tx off (encField (tsVal s r))) rest

/-- TXBUF cleared, then the header with the live sequence number (R142). -/
def buildHeader (m : Msg) (s : State) : State :=
  let cleared := storeBytes s .tx 0 (List.replicate frameBufLen 0)
  let headed := storeBytes cleared .tx 0 (template s.cfg s.mat m)
  storeBytes headed .tx 2 [s.seq]

/-- BUILD of a named message (R142). -/
def buildEffect (m : Msg) (s : State) : Except CmdFault State := do
  needMsg s.cfg m
  needTs s ((embedded m).map Prod.fst)
  return { s with mem := embedTs (buildHeader m s) (embedded m), txLen := BitVec.ofNat 5 (frameLen m) }

/-- The header offsets VALIDATE compares: all but the sequence number's (R143). -/
def comparedOffsets : List Nat := [0, 1, 3, 4, 5, 6, 7, 8, 9]

/-- VALIDATE's verdict (R143): the exact length, and the header outside byte 2. -/
def frameMatches (m : Msg) (s : State) : Bool :=
  s.rxLen.toNat = frameLen m &&
    comparedOffsets.all fun i => bufByte s.mem .rx i = (template s.cfg s.mat m).getD i 0

/-- VALIDATE of a named message (R143). -/
def validateEffect (m : Msg) (s : State) : Except CmdFault State := do
  needMsg s.cfg m
  return { s with vok := frameMatches m s }

/-- `BUILD msg` (R142). -/
def execBuild (msg : Byte) (s : State) : Host.Outcome State Fault Refusal :=
  .next (idleCommand s fun s => do buildEffect (← msgOperand msg) s)

/-- `VALIDATE msg` (R143). -/
def execValidate (msg : Byte) (s : State) : Host.Outcome State Fault Refusal :=
  .next (idleCommand s fun s => do validateEffect (← msgOperand msg) s)

end Sys2Proof.Machine
end

