-- ==== Sys2Proof/Machine/Radio.lean ====
section
/-! DEFINITION. The radio port as TRE uses it (spec/45_external_ports.md R250 to R265). A call is added to the call
trace; the answer of a call that answers is the first of State's list for it, or a free value when the list is empty
(assumption log 2). `wait_status` returns when a status word shows a bit of the mask, and blocks till then
(assumption log 3). -/

namespace Sys2Proof.Machine

/-- Add a call to the trace (R272). -/
def call (s : State) (c : RadioCall) : State := { s with env := { s.env with calls := s.env.calls ++ [c] } }

/-- The first listed answer, else the free value of this point; with it the answers left and the free-value
counter. -/
def nextAnswer {α : Type} (listed : List α) (free : Nat → α) (n : Nat) : α × List α × Nat :=
  match listed with
  | a :: rest => (a, rest, n)
  | [] => (free n, [], n + 1)

/-- The state with other pending answers and another free-value counter. -/
def withAnswers (s : State) (a : RadioAnswers) (n : Nat) : State :=
  { s with env := { s.env with answers := a, free := n } }

/-- `radio.configure(CHANNEL_PARAMS)` (R251). -/
def radioConfigure (s : State) : ConfigureAnswer × State :=
  let r := nextAnswer s.env.answers.configure Config.freeConfigure s.env.free
  (r.1, call (withAnswers s { s.env.answers with configure := r.2.1 } r.2.2) (.configure s.cfg.channelParams))

/-- `radio.arm_rx(mode)` (R252). -/
def radioArmRx (s : State) (mode : RxMode) : State := call s (.armRx mode)

/-- `radio.arm_tx(mode, expect_response)`: "immediate always answers ok" (R253). -/
def radioArmTx (s : State) (mode : TxMode) (expectResponse : Bool) : TxAnswer × State :=
  match mode with
  | .immediate => (.ok, call s (.armTx mode expectResponse))
  | .delayed _ =>
    let r := nextAnswer s.env.answers.armTx Config.freeArmTx s.env.free
    (r.1, call (withAnswers s { s.env.answers with armTx := r.2.1 } r.2.2) (.armTx mode expectResponse))

/-- What a look at the radio's status gives `wait_status`. -/
inductive Waited where
  | blocked (s : State)
  | returned (st : Word) (s : State)

/-- `radio.wait_status(mask)`: "returns when at least one bit of mask is set" (R254). A status word with no bit of
the mask set is looked at and passed over. -/
def radioWaitStatus (s : State) (mask : Word) : Waited :=
  match s.env.answers.status with
  | [] => .blocked s
  | st :: rest =>
    let s' := withAnswers s { s.env.answers with status := rest } s.env.free
    if st &&& mask = 0 then .blocked s' else .returned st (call s' (.waitStatus mask))

/-- `radio.clear_status(mask)` (R256). -/
def radioClearStatus (s : State) (mask : Word) : State := call s (.clearStatus mask)

/-- `radio.read_sts_quality()` (R259). -/
def radioReadSts (s : State) : StsAnswer × State :=
  let r := nextAnswer s.env.answers.sts Config.freeSts s.env.free
  (r.1, call (withAnswers s { s.env.answers with sts := r.2.1 } r.2.2) .readStsQuality)

/-- The 24 bytes RXBUF receives: the first 24 of the frame, "0 for the rest" (R257). -/
def rxBytes (bytes : List Byte) : List Byte := bytes.take 24 ++ List.replicate (24 - bytes.length) 0

/-- `(RXBUF, RXLEN) <- radio.read_frame()` (R42, R257). A reported length is in 0..1023, so an answer longer than
that counts as its first 1023 bytes (assumption log 15). -/
def radioReadFrame (s : State) : State :=
  let r := nextAnswer s.env.answers.frame Config.freeFrame s.env.free
  let bytes := r.1.take 1023
  let s' := call (withAnswers s { s.env.answers with frame := r.2.1 } r.2.2) .readFrame
  { storeBytes s' .rx 0 (rxBytes bytes) with rxLen := BitVec.ofNat 10 bytes.length }

/-- `radio.read_tx_timestamp()`: 40-bit device time in 64 bits (R258). -/
def radioReadTxTime (s : State) : DWord × State :=
  let r := nextAnswer s.env.answers.txTime Config.freeTxTime s.env.free
  (r.1.setWidth 64, call (withAnswers s { s.env.answers with txTime := r.2.1 } r.2.2) .readTxTimestamp)

/-- `radio.read_rx_timestamp()` (R258). -/
def radioReadRxTime (s : State) : DWord × State :=
  let r := nextAnswer s.env.answers.rxTime Config.freeRxTime s.env.free
  (r.1.setWidth 64, call (withAnswers s { s.env.answers with rxTime := r.2.1 } r.2.2) .readRxTimestamp)

/-- `radio.write_tx_frame(TXBUF[0..TXLEN-1], TXLEN)` (R260). -/
def radioWriteTxFrame (s : State) : State :=
  call s (.writeTxFrame (memRead s.mem .tx 0 s.txLen.toNat) s.txLen.toNat)

/-- `radio.set_sts_key` (R261). -/
def radioSetStsKey (s : State) : State := call s (.setStsKey s.mat.key)

/-- `radio.set_sts_iv` (R262). -/
def radioSetStsIv (s : State) : State := call s (.setStsIv s.mat.iv)

/-- `radio.set_sts_iv_low(IV[0])` (R262). -/
def radioSetStsIvLow (s : State) : State := call s (.setStsIvLow s.mat.iv.w0)

/-- `radio.read_clock_offset()` (R263). -/
def radioReadClockOffset (s : State) : Word × State :=
  let r := nextAnswer s.env.answers.clockOffset Config.freeClockOffset s.env.free
  (r.1, call (withAnswers s { s.env.answers with clockOffset := r.2.1 } r.2.2) .readClockOffset)

/-- `radio.read_pdoa()` (R264). -/
def radioReadPdoa (s : State) : Half × State :=
  let r := nextAnswer s.env.answers.pdoa Config.freePdoa s.env.free
  (r.1, call (withAnswers s { s.env.answers with pdoa := r.2.1 } r.2.2) .readPdoa)

/-- `radio.set_rx_params` (R265). -/
def radioSetRxParams (s : State) (rxAfterTxDly rxTimeout : Nat) : State :=
  call s (.setRxParams rxAfterTxDly rxTimeout s.cfg.preTimeoutPac)

end Sys2Proof.Machine
end

