-- ==== Sys2Proof/Machine/Session.lean ====
section
/-! DEFINITION. The STS Session Manager commands POSTKEY, APPLYKEY and ARMCYC (spec/43_sts_session.md). -/

namespace Sys2Proof.Machine

/-- The big-endian word of BLOB at byte `i` (R67, R112). -/
def blobWord (m : Memory) (i : Nat) : Word :=
  be32 (bufByte m .blob i) (bufByte m .blob (i + 1)) (bufByte m .blob (i + 2)) (bufByte m .blob (i + 3))

/-- The big-endian 16-bit value of BLOB at byte `i` (R67, R112). -/
def blobHalf (m : Memory) (i : Nat) : Half := be16 (bufByte m .blob i) (bufByte m .blob (i + 1))

/-- The mailbox filled from BLOB (R112, R181). -/
def mailboxOf (m : Memory) : Mailbox where
  valid := true
  key := ⟨blobWord m 0, blobWord m 4, blobWord m 8, blobWord m 12⟩
  iv := ⟨blobWord m 16, blobWord m 20, blobWord m 24, blobWord m 28⟩
  dest := blobHalf m 32
  src := blobHalf m 34

/-- POSTKEY's effect: the mailbox only; an older post is lost whole (R181). -/
def postkeyEffect (s : State) : Except CmdFault State := .ok { s with pend := mailboxOf s.mem }

/-- The active material from a mailbox, with the address crossover (R183, R184). -/
def materialOf (r : Role) (p : Mailbox) : KeyMaterial :=
  match r with
  | .initiator => ⟨p.key, p.iv, p.src, p.dest⟩
  | .responder => ⟨p.key, p.iv, p.dest, p.src⟩

/-- The mailbox consumed (R184). -/
def applyKey (s : State) : State :=
  if s.pend.valid then
    { s with mat := materialOf s.cfg.role s.pend, firstCycle := true, pend := { s.pend with valid := false } }
  else s

/-- The radio's STS programmed for a cycle: key and IV on the first cycle, else IV[0] (R185). -/
def armCycle (s : State) : State :=
  if s.firstCycle then { radioSetStsIv (radioSetStsKey s) with firstCycle := false } else radioSetStsIvLow s

/-- `POSTKEY` (R181): accepted in every phase but Fatal. -/
def execPostkey (s : State) : Host.Outcome State Fault Refusal := .next (anytimeCommand s postkeyEffect)

/-- `APPLYKEY` (R184). -/
def execApplykey (s : State) : Host.Outcome State Fault Refusal := .next (idleCommand s fun s => .ok (applyKey s))

/-- `ARMCYC` (R185). -/
def execArmcyc (s : State) : Host.Outcome State Fault Refusal := .next (idleCommand s fun s => .ok (armCycle s))

end Sys2Proof.Machine
end

