-- ==== Sys2Proof/Machine/Tof.lean ====
section
/-! DEFINITION. The Time-of-Flight Calculator commands TOFSS, TOFDS, PDOACVT and DURMS (spec/42_tof.md). Every
binary64 operation is written in the order of the pseudocode, each rounded once (R170). -/

namespace Sys2Proof.Machine

/-- `d32(a, b)`: the difference of the low words modulo 2^32 (R160). -/
def d32 (s : State) (a b : TsReg) : Word := trunc32 (tsVal s a) - trunc32 (tsVal s b)

/-- `D(a, b)`: the same as binary64, unsigned and exact (R160). -/
def dF64 (s : State) (a b : TsReg) : DWord := f64OfNat (d32 s a b).toNat

/-- `K(raw)`: the clock-offset ratio (R162); 67108864 = 2^26. -/
def clockRatio (raw : Word) : DWord := fdiv (f64OfInt raw.toInt) (f64OfNat 67108864)

/-- The SS-TWR formula (R161). -/
def tofSsDtu (s : State) : DWord :=
  let rtdInit := dF64 s .respRx .pollTx
  let rtdResp := dF64 s .respTx .pollRx
  let t1 := fsub (f64OfNat 1) (clockRatio s.kRaw)
  let t2 := fmul rtdResp t1
  let t3 := fsub rtdInit t2
  fdiv t3 (f64OfNat 2)

/-- The DS-TWR formula in the written form, "not simplified" (R164). -/
def tofDsDtu (s : State) : DWord :=
  let ra := dF64 s .respRx .pollTx
  let rb := dF64 s .finalRx .respTx
  let da := dF64 s .finalTx .respRx
  let db := dF64 s .respTx .pollRx
  let num := fsub (fmul ra rb) (fmul da db)
  let den := fadd (fadd (fadd ra rb) da) db
  fdiv num den

/-- `LONG40` on two timestamp registers (R173). -/
def longPair (s : State) (a b : TsReg) : Bool := long40 (tsVal s a) (tsVal s b)

/-- TOFSS's effect (R161, R163, R173). -/
def tofssEffect (s : State) : Except CmdFault State := do
  needTs s [.pollTx, .pollRx, .respTx, .respRx]
  return { setResults s (tofSsDtu s) with wrapFlag := longPair s .respRx .pollTx }

/-- TOFDS's effect (R164, R165, R173). -/
def tofdsEffect (s : State) : Except CmdFault State := do
  needTs s [.pollTx, .pollRx, .respTx, .respRx, .finalTx, .finalRx]
  return { setResults s (tofDsDtu s) with
    wrapFlag := longPair s .respTx .pollRx || longPair s .finalRx .respTx }

/-- Degrees from a raw PDOA reading, rounded once to binary32 (R166). -/
def pdoaDegrees (raw : Half) : Word :=
  let a := fdiv (f64OfInt raw.toInt) (f64OfNat 2048)
  let b := fmul a (f64OfNat 180)
  f32OfF64 (fdiv b pi64)

/-- PDOACVT's effect (R166). -/
def pdoacvtEffect (s : State) : Except CmdFault State :=
  .ok { s with pdoaDeg := pdoaDegrees s.pdoaRaw, pdoaValid := true }

/-- The interval between two timestamps modulo 2^40 (R167). -/
def d40 (s : State) (start stop : TsReg) : Time40 := trunc40 (tsVal s stop) - trunc40 (tsVal s start)

/-- Milliseconds from an interval in DTU (R167). -/
def durationMs (d : Time40) : DWord := fmul (fmul (f64OfNat d.toNat) dtuS) (f64OfNat 1000)

/-- DURMS on two named registers (R167). -/
def durmsEffect (start stop : TsReg) (s : State) : Except CmdFault State := do
  needTs s [start, stop]
  return { s with durMs := durationMs (d40 s start stop), durValid := true }

/-- `TOFSS` (R161). -/
def execTofss (s : State) : Host.Outcome State Fault Refusal := .next (idleCommand s tofssEffect)

/-- `TOFDS` (R164). -/
def execTofds (s : State) : Host.Outcome State Fault Refusal := .next (idleCommand s tofdsEffect)

/-- `PDOACVT` (R166). -/
def execPdoacvt (s : State) : Host.Outcome State Fault Refusal := .next (idleCommand s pdoacvtEffect)

/-- `DURMS ts_start, ts_end` (R167). -/
def execDurms (tsStart tsEnd : Byte) (s : State) : Host.Outcome State Fault Refusal :=
  .next (idleCommand s fun s => do durmsEffect (← tsOperand tsStart) (← tsOperand tsEnd) s)

end Sys2Proof.Machine
end

