-- ==== Sys2Proof/Machine/Sequencer.lean ====
section
/-! DEFINITION. The Ranging State Machine (spec/44_sequencer.md): the commands TXSCHED, SEQINC, ERRINC, TSCLR,
DELIVER and RUN, and the sequencer's steps. Where a step names a command the sequencer performs its effect and
leaves CMD_FAULT alone (R200). -/

namespace Sys2Proof.Machine

/-! Commands. -/

/-- The source register, destination register and reply delay of TXSCHED; POLL has none (R233). -/
def schedOf (c : Config) : Msg → Option (TsReg × TsReg × Nat)
  | .poll => none
  | .resp => some (.pollRx, .respTx, respDlyDtu c)
  | .final => some (.respRx, .finalTx, finalDlyDtu c)

/-- The delayed transmission time modulo 2^40 (R233). -/
def schedTime (rx : DWord) (dly : Nat) : Time40 := BitVec.ofNat 40 ((trunc40 rx).toNat + dly)

/-- The transmit timestamp that goes with it: the low 9 bits zero, plus the antenna delay (R233, R332). -/
def schedStamp (c : Config) (x : Time40) : DWord :=
  (((x >>> 9) <<< 9) + c.txAntDly.setWidth 40).setWidth 64

/-- TXSCHED of a named message (R233). -/
def txschedEffect (m : Msg) (s : State) : Except CmdFault State := do
  needMsg s.cfg m
  match schedOf s.cfg m with
  | none => throw .badOperand
  | some (src, dst, dly) =>
    needTs s [src]
    let x := schedTime (tsVal s src) dly
    return { setTs s dst (schedStamp s.cfg x) with dlyTime := x.extractLsb' 8 32 }

/-- The result message: the tag `'b'` and the bytes of `DIST_M`, low byte first (R113, R234). -/
def resultMessage (d : DWord) : List Byte := 0x62#8 :: bytes64 d

/-- DELIVER's effect (R234). -/
def deliverEffect (s : State) : Except CmdFault State :=
  if s.resultValid then .ok (emit s (resultMessage s.distM)) else .error .noResult

/-! The cycle-start step (R202, R204, R208). -/

/-- Steps 1 to 4 of R202: mailbox, TimestampSet, valid bits, STS. -/
def cycleHead (s : State) : State :=
  armCycle { clearTs (applyKey s) with
    resultValid := false, pdoaValid := false, durValid := false, vok := false, wrapFlag := false }

/-- R204: "build & send Poll immediate". -/
def sendPoll (s : State) : Except CmdFault State := do
  let s ← buildEffect .poll s
  let s := radioSetRxParams (radioWriteTxFrame s) s.cfg.pollTxToRespRxDly s.cfg.respRxTimeout
  return { (radioArmTx s .immediate true).2 with phase := .sendPoll }

/-- R208: "arm immediate RX". -/
def armForPoll (s : State) : State :=
  { radioArmRx (radioSetRxParams s 0 s.cfg.pollRxTimeout) .immediate with phase := .awaitPoll }

/-- The cycle-start step (R202). -/
def cycleStart (s : State) : Except CmdFault State :=
  match s.cfg.role with
  | .initiator => sendPoll (cycleHead s)
  | .responder => .ok (armForPoll (cycleHead s))

/-! Wait steps (R205, R206, R210, R211, R215, R216, R217, R221). -/

/-- Wait for TX_DONE, clear it, advance SEQ, go on (R205, R215, R217). -/
def txWait (s : State) (next : State → State) : State :=
  match radioWaitStatus s txDoneMask with
  | .blocked s' => s'
  | .returned _ s' => next (bumpSeq (radioClearStatus s' txDoneMask))

/-- The checks of a receive wait step after a good status, in the order STS quality, frame, header, and then the
rest of the step (R211, R216, R221, R293). -/
def rxGood (m : Msg) (rest : State → Except CmdFault State) (s : State) : Except CmdFault State :=
  let q := radioReadSts s
  if stsAccepted q.1 then do
    let s ← validateEffect m (radioReadFrame q.2)
    if s.vok then rest s else return raiseErr s .badFrameHeader 0
  else .ok (raiseErr q.2 .badStsQuality 0)

/-- A receive wait step (R206). -/
def rxWait (m : Msg) (rest : State → Except CmdFault State) (s : State) : State :=
  match radioWaitStatus s rxMask with
  | .blocked s' => s'
  | .returned st s' =>
    let s' := radioClearStatus s' (st &&& rxMask)
    match classify st with
    | .bad kind mask => raiseErr s' kind mask
    | .good => seqOutcome s (rxGood m rest s')

/-- `TS[r] <- radio.read_tx_timestamp()`. -/
def stampTx (s : State) (r : TsReg) : State := setTs (radioReadTxTime s).2 r (radioReadTxTime s).1

/-- `TS[r] <- radio.read_rx_timestamp()`. -/
def stampRx (s : State) (r : TsReg) : State := setTs (radioReadRxTime s).2 r (radioReadRxTime s).1

/-- `K_RAW <- if CLKOFF_EN then radio.read_clock_offset() else 0` (R211, R162). -/
def readClock (s : State) : State :=
  if s.cfg.clkoffEn then { (radioReadClockOffset s).2 with kRaw := (radioReadClockOffset s).1 }
  else { s with kRaw := 0 }

/-- `if PDOA_EN then PDOA_RAW <- radio.read_pdoa()` (R211, R221). -/
def readPdoa (s : State) : State :=
  if s.cfg.pdoaEn then { (radioReadPdoa s).2 with pdoaRaw := (radioReadPdoa s).1 } else s

/-- The rest of a good AwaitResponse step (R211). -/
def gotResponse (s : State) : Except CmdFault State := do
  let s ← extractEffect (stampRx (stampTx s .pollTx) .respRx) (embedded .resp)
  return { readPdoa (readClock s) with phase := .compute }

/-- Send the frame in TXBUF at `DLYTIME`; a refusal is DelayedTxTooLate (R214, R216, R287). -/
def sendDelayed (s : State) (expectResponse : Bool) (next : Phase) : State :=
  let a := radioArmTx s (.delayed s.dlyTime) expectResponse
  match a.1 with
  | .ok => { a.2 with phase := next }
  | .late => raiseErr a.2 .delayedTxTooLate 0

/-- In a DS-TWR variant ask for the second RX window (R216, R217). -/
def finalWindow (s : State) : State :=
  if s.cfg.variant = .singleSided then s
  else radioSetRxParams s s.cfg.respTxToFinalRxDly s.cfg.finalRxTimeout

/-- The rest of a good AwaitPoll step (R216). -/
def gotPoll (s : State) : Except CmdFault State := do
  let s ← txschedEffect .resp (stampRx s .pollRx)
  let s ← buildEffect .resp s
  let s := finalWindow (radioWriteTxFrame s)
  return sendDelayed s (s.cfg.variant ≠ .singleSided) .sendResponse

/-- The rest of a good AwaitFinal step (R221). -/
def gotFinal (s : State) : Except CmdFault State := do
  let s ← extractEffect (stampRx s .finalRx) (embedded .final)
  return { readPdoa s with phase := .compute }

/-- After the Response has been sent (R217). -/
def responseSent (s : State) : State :=
  if s.cfg.variant = .singleSided then endCycle s else { s with phase := .awaitFinal }

/-! Compute steps (R212, R214, R222). -/

/-- DURMS and PDOACVT as the build enables them (R212, R222). -/
def sideOutputs (start stop : TsReg) (s : State) : Except CmdFault State := do
  let s ← if s.cfg.durEn then durmsEffect start stop s else pure s
  if s.cfg.pdoaEn then pdoacvtEffect s else pure s

/-- R214: schedule, build and send the Final. -/
def sendFinal (s : State) : Except CmdFault State := do
  let s ← txschedEffect .final s
  let s ← buildEffect .final s
  return sendDelayed (radioWriteTxFrame s) false .sendFinal

/-- The Initiator's compute step (R212): the result is delivered before the Final is scheduled. -/
def computeInitiator (s : State) : Except CmdFault State := do
  let s ← tofssEffect s
  let s ← sideOutputs .pollTx .respRx s
  let s ← deliverEffect s
  if s.cfg.variant = .singleSided then return endCycle s else sendFinal s

/-- The Responder's compute step (R222): no DELIVER. -/
def computeResponder (s : State) : Except CmdFault State := do
  let s ← tofdsEffect s
  let s ← sideOutputs .pollRx .finalRx s
  return endCycle s

/-! The init step and the sequencer (R200, R321). -/

/-- The init step (R321). -/
def initStep (s : State) : State :=
  let a := radioConfigure s
  match a.1 with
  | .ok => { a.2 with phase := .idle }
  | .notResponding => raiseFatal a.2 1
  | .rejected => raiseFatal a.2 2

/-- One turn of the sequencer (R200, R224). In Idle it starts a cycle only under AUTO (R203); in Fatal it has no
step (R297). -/
def seqStep (s : State) : State :=
  match s.phase with
  | .init => initStep s
  | .idle => if s.auto then seqOutcome s (cycleStart s) else s
  | .sendPoll => txWait s fun s => { s with phase := .awaitResponse }
  | .awaitResponse => rxWait .resp gotResponse s
  | .sendFinal => txWait s endCycle
  | .awaitPoll => rxWait .poll gotPoll s
  | .sendResponse => txWait s responseSent
  | .awaitFinal => rxWait .final gotFinal s
  | .compute =>
    match s.cfg.role with
    | .initiator => seqOutcome s (computeInitiator s)
    | .responder => seqOutcome s (computeResponder s)
  | .fatal => s

/-! The meanings. -/

/-- `TXSCHED msg` (R233). -/
def execTxsched (msg : Byte) (s : State) : Host.Outcome State Fault Refusal :=
  .next (idleCommand s fun s => do txschedEffect (← msgOperand msg) s)

/-- `SEQINC` (R230). -/
def execSeqinc (s : State) : Host.Outcome State Fault Refusal := .next (idleCommand s fun s => .ok (bumpSeq s))

/-- `ERRINC kind[, mask]` (R231). -/
def execErrinc (kind mask : Byte) (s : State) : Host.Outcome State Fault Refusal :=
  .next (idleCommand s fun s => do return countError s (← kindOperand kind) mask)

/-- `TSCLR` (R232). -/
def execTsclr (s : State) : Host.Outcome State Fault Refusal := .next (idleCommand s fun s => .ok (clearTs s))

/-- `DELIVER` (R234). -/
def execDeliver (s : State) : Host.Outcome State Fault Refusal := .next (idleCommand s deliverEffect)

/-- `RUN` (R201): `CMD_FAULT <- 0` and the cycle-start step, in the same atomic step. -/
def execRun (s : State) : Host.Outcome State Fault Refusal := .next (idleCommand s cycleStart)

end Sys2Proof.Machine
end

