-- ==== Sys2Proof/Machine/Dispatch.lean ====
section
/-! DEFINITION. One arm per command: the meaning of every row of spec/opcode_table.json. -/

namespace Sys2Proof.Machine

def exec (i : Instr) (s : State) : Host.Outcome State Fault Refusal :=
  match i with
  | .enc32 ts off => Sys2Proof.Machine.execEnc32 ts off s
  | .dec32 ts off => Sys2Proof.Machine.execDec32 ts off s
  | .txsched msg => Sys2Proof.Machine.execTxsched msg s
  | .build msg => Sys2Proof.Machine.execBuild msg s
  | .validate msg => Sys2Proof.Machine.execValidate msg s
  | .tofss => Sys2Proof.Machine.execTofss s
  | .tofds => Sys2Proof.Machine.execTofds s
  | .pdoacvt => Sys2Proof.Machine.execPdoacvt s
  | .durms a b => Sys2Proof.Machine.execDurms a b s
  | .postkey => Sys2Proof.Machine.execPostkey s
  | .applykey => Sys2Proof.Machine.execApplykey s
  | .armcyc => Sys2Proof.Machine.execArmcyc s
  | .seqinc => Sys2Proof.Machine.execSeqinc s
  | .errinc kind mask => Sys2Proof.Machine.execErrinc kind mask s
  | .tsclr => Sys2Proof.Machine.execTsclr s
  | .deliver => Sys2Proof.Machine.execDeliver s
  | .run => Sys2Proof.Machine.execRun s

end Sys2Proof.Machine
end

