-- ==== Sys2Proof/Machine/HostPort.lean ====
section
/-! DEFINITION. The host register port (spec/10_state.md R20 to R25, R50): the register map, reads, writes under the
phase gate, and command words written to CMD. -/

namespace Sys2Proof.Machine

/-- The registers of the map (R21). A buffer word is named by its buffer and its register-space address. -/
inductive Reg where
  | cmd
  | status
  | ctrl
  | cfg
  | seq
  | tsv
  | kRaw
  | pdoaRaw
  | dlyTime
  | rxErrMask
  | fatalCode
  | txLen
  | rxLen
  | tsLo (r : TsReg)
  | tsHi (r : TsReg)
  | tofDtuLo
  | tofDtuHi
  | tofSLo
  | tofSHi
  | distMLo
  | distMHi
  | durMsLo
  | durMsHi
  | pdoaDeg
  | key0
  | key1
  | key2
  | key3
  | iv0
  | iv1
  | iv2
  | iv3
  | addr
  | errCnt (k : ErrKind)
  | bufWord (b : Buf) (a : Nat)
deriving DecidableEq, Repr

/-- The register map outside the buffers (R21). -/
def regTable : List (Nat × Reg) :=
  [(0x000, .cmd), (0x004, .status), (0x008, .ctrl), (0x00C, .cfg), (0x010, .seq), (0x014, .tsv),
   (0x018, .kRaw), (0x01C, .pdoaRaw), (0x020, .dlyTime), (0x024, .rxErrMask), (0x028, .fatalCode),
   (0x02C, .txLen), (0x030, .rxLen),
   (0x040, .tsLo .pollTx), (0x044, .tsHi .pollTx), (0x048, .tsLo .pollRx), (0x04C, .tsHi .pollRx),
   (0x050, .tsLo .respTx), (0x054, .tsHi .respTx), (0x058, .tsLo .respRx), (0x05C, .tsHi .respRx),
   (0x060, .tsLo .finalTx), (0x064, .tsHi .finalTx), (0x068, .tsLo .finalRx), (0x06C, .tsHi .finalRx),
   (0x080, .tofDtuLo), (0x084, .tofDtuHi), (0x088, .tofSLo), (0x08C, .tofSHi),
   (0x090, .distMLo), (0x094, .distMHi), (0x098, .durMsLo), (0x09C, .durMsHi), (0x0A0, .pdoaDeg),
   (0x0C0, .key0), (0x0C4, .key1), (0x0C8, .key2), (0x0CC, .key3),
   (0x0D0, .iv0), (0x0D4, .iv1), (0x0D8, .iv2), (0x0DC, .iv3), (0x0E0, .addr),
   (0x100, .errCnt .rxTimeout), (0x104, .errCnt .rxError), (0x108, .errCnt .badFrameHeader),
   (0x10C, .errCnt .badStsQuality), (0x110, .errCnt .preambleNotDetected), (0x114, .errCnt .delayedTxTooLate),
   (0x118, .errCnt .allocationFailure)]

/-- The register at an address, if the map lists one (R21). -/
def regAt (a : Nat) : Option Reg :=
  if Buf.blob.holds a then some (.bufWord .blob a)
  else if Buf.tx.holds a then some (.bufWord .tx a)
  else if Buf.rx.holds a then some (.bufWord .rx a)
  else regTable.lookup a

/-- A timestamp register as the host reads it: 0 while it is invalid (R26). -/
def hostTs (s : State) (r : TsReg) : DWord := if tsValid s r then tsVal s r else 0

/-- What a register reads as (R21 to R45). -/
def readReg (s : State) : Reg → Word
  | .cmd => 0
  | .status => statusWord s
  | .ctrl => 0#31 ++ BitVec.ofBool s.auto
  | .cfg => cfgWord s.cfg
  | .seq => s.seq.setWidth 32
  | .tsv => tsvWord s.ts
  | .kRaw => s.kRaw
  | .pdoaRaw => s.pdoaRaw.setWidth 32
  | .dlyTime => s.dlyTime
  | .rxErrMask => s.rxErrMask.setWidth 32
  | .fatalCode => s.fatalCode.setWidth 32
  | .txLen => s.txLen.setWidth 32
  | .rxLen => s.rxLen.setWidth 32
  | .tsLo r => trunc32 (hostTs s r)
  | .tsHi r => hi32 (hostTs s r)
  | .tofDtuLo => trunc32 s.tofDtu
  | .tofDtuHi => hi32 s.tofDtu
  | .tofSLo => trunc32 s.tofS
  | .tofSHi => hi32 s.tofS
  | .distMLo => trunc32 s.distM
  | .distMHi => hi32 s.distM
  | .durMsLo => trunc32 s.durMs
  | .durMsHi => hi32 s.durMs
  | .pdoaDeg => s.pdoaDeg
  | .key0 => s.mat.key.w0
  | .key1 => s.mat.key.w1
  | .key2 => s.mat.key.w2
  | .key3 => s.mat.key.w3
  | .iv0 => s.mat.iv.w0
  | .iv1 => s.mat.iv.w1
  | .iv2 => s.mat.iv.w2
  | .iv3 => s.mat.iv.w3
  | .addr => s.mat.dstAddr ++ s.mat.srcAddr
  | .errCnt k => s.errCnt.get k
  | .bufWord _ a => memWord s.mem a

/-- `RegRead(addr)`: an address the map does not list reads 0 (R20). -/
def regRead (s : State) (a : Nat) : Word :=
  match regAt a with
  | some r => readReg s r
  | none => 0

/-- A command word written to CMD (R22, R97): dropped in Fatal, ILLEGAL_OP when it is no command. -/
def runWord (w : Word) (s : State) : Host.Outcome State Fault Refusal :=
  match decode w with
  | .ok i => exec i s
  | .error _ => .next (anytimeCommand s fun _ => .error .illegalOp)

/-- `RegWrite(TSi_LO, v)`: the other half becomes 0 if the register was invalid (R26). -/
def writeTsLo (s : State) (r : TsReg) (v : Word) : State := setTs s r (join64 (hi32 (hostTs s r)) v)

/-- `RegWrite(TSi_HI, v)` (R26). -/
def writeTsHi (s : State) (r : TsReg) (v : Word) : State := setTs s r (join64 v (trunc32 (hostTs s r)))

/-- A write that is accepted only in Idle (RWI, R21, R50). -/
def inIdle (s t : State) : State := if s.phase = .idle then t else s

/-- A write that is accepted in every phase but Fatal (R50). -/
def notInFatal (s t : State) : State := if s.phase = .fatal then s else t

/-- A host write to a register other than CMD (R21, R50). A read-only register ignores it. A register narrower than
32 bits takes the low bits of the word (R29; assumption log 17). -/
def writeReg (s : State) (v : Word) : Reg → State
  | .ctrl => notInFatal s { s with auto := v.getLsbD 0 }
  | .kRaw => inIdle s { s with kRaw := v }
  | .pdoaRaw => inIdle s { s with pdoaRaw := v.setWidth 16 }
  | .rxLen => inIdle s { s with rxLen := v.setWidth 10 }
  | .tsLo r => inIdle s (writeTsLo s r v)
  | .tsHi r => inIdle s (writeTsHi s r v)
  | .bufWord .blob a => notInFatal s { s with mem := memSetWord s.mem a v }
  | .bufWord .tx a => inIdle s { s with mem := memSetWord s.mem a v }
  | .bufWord .rx a => inIdle s { s with mem := memSetWord s.mem a v }
  | .cmd => s
  | .status => s
  | .cfg => s
  | .seq => s
  | .tsv => s
  | .dlyTime => s
  | .rxErrMask => s
  | .fatalCode => s
  | .txLen => s
  | .tofDtuLo => s
  | .tofDtuHi => s
  | .tofSLo => s
  | .tofSHi => s
  | .distMLo => s
  | .distMHi => s
  | .durMsLo => s
  | .durMsHi => s
  | .pdoaDeg => s
  | .key0 => s
  | .key1 => s
  | .key2 => s
  | .key3 => s
  | .iv0 => s
  | .iv1 => s
  | .iv2 => s
  | .iv3 => s
  | .addr => s
  | .errCnt _ => s

/-- A host transaction's address: "a multiple of 4, in the range 0x000 to 0x1B7" (R20); anything else is no
transaction of the port (R70). -/
def onPort (a : Nat) (t : Host.Outcome State Fault Refusal) : Host.Outcome State Fault Refusal :=
  if a % 4 ≠ 0 then .refused (.notATransaction a)
  else if a > 0x1B7 then .fault (.outsidePort a)
  else t

/-- A `RegRead` transaction: the value is added to what the host has read. -/
def hostRead (a : Nat) (s : State) : Host.Outcome State Fault Refusal :=
  onPort a (.next { s with env := { s.env with readBack := s.env.readBack ++ [regRead s a] } })

/-- A `RegWrite` transaction (R20, R22). -/
def hostWrite (a : Nat) (v : Word) (s : State) : Host.Outcome State Fault Refusal :=
  onPort a <|
    match regAt a with
    | some .cmd => runWord v s
    | some r => .next (writeReg s v r)
    | none => .next s

/-- The state with the given inputs still to come. -/
def withInputs (s : State) (rest : List Input) : State := { s with env := { s.env with inputs := rest } }

/-- What one input does (R20, R200, R320; assumption log 1). -/
def takeInput (i : Input) (s : State) : Host.Outcome State Fault Refusal :=
  match i with
  | .hostRead a => hostRead a s
  | .hostWrite a v => hostWrite a v s
  | .sequencer => .next (seqStep s)
  | .reset => .next (resetEvent s)

/-- A command word as the next input, accepted: `PHASE` is Idle, where every command is accepted (R97). -/
def presentWord (s : State) (w : Word) : State :=
  { withInputs s (.hostWrite 0x000 w :: s.env.inputs) with phase := .idle }

end Sys2Proof.Machine
end

