-- ==== Sys2Proof/Machine/Step.lean ====
section
/-! DEFINITION. One step of TRE: the next input, or a turn of the sequencer when none is announced (spec/00_scope.md
R2, spec/44_sequencer.md R200; assumption log 1). -/

namespace Sys2Proof.Machine

/-- One atomic step. -/
def step (s : State) : Host.Outcome State Fault Refusal :=
  match s.env.inputs with
  | i :: rest => takeInput i (withInputs s rest)
  | [] => .next (seqStep s)

/-- `s` with the command word `w` written to CMD as its very next input, in Idle (assumption log 18). -/
def State.withFetchWord (s : State) (nbits w : Nat) : State := presentWord s (BitVec.ofNat 32 (w % 2 ^ nbits))

end Sys2Proof.Machine
end

