-- ==== Sys2Proof/Safety.lean ====
section
/-! DEFINITION. What a good state of TRE is, in the terms the statements use. `goodState` is meant to hold at reset and to be
kept by every step; it rules out the states that no run reaches. -/

namespace Sys2Proof.Machine

/-- The byte store is canonical and holds only buffer bytes (R60). -/
def memFits (s : State) : Bool := s.mem.wf && s.mem.inBuffers

/-- `TXLEN` is 0 or the length of a frame of the catalog (R41, R106). -/
def txLenFits (s : State) : Bool := s.txLen = 0 || s.txLen = 12 || s.txLen = 20 || s.txLen = 24

/-- FATAL_CODE is 1 or 2 in Fatal and 0 elsewhere (R45, R296). -/
def fatalFits (s : State) : Bool :=
  if s.phase = .fatal then s.fatalCode = 1 || s.fatalCode = 2 else s.fatalCode = 0

/-- The timestamps an Initiator has gathered when it computes (R211). -/
def initiatorTs : List TsReg := [.pollTx, .pollRx, .respTx, .respRx]

/-- The timestamps a Responder holds between its Response and the Final (R216, R217). -/
def responderTs : List TsReg := [.pollRx, .respTx]

/-- All six timestamp registers. -/
def allTs : List TsReg := [.pollTx, .pollRx, .respTx, .respRx, .finalTx, .finalRx]

/-- A phase belongs to the role and variant that can reach it, and the timestamps that the rest of the cycle reads
are valid (R39, R223, R224; R300: the sequencer's rules establish "the valid bits before each use"). -/
def phaseFits (s : State) : Bool :=
  match s.phase with
  | .idle => true
  | .init => true
  | .fatal => true
  | .sendPoll => s.cfg.role = .initiator
  | .awaitResponse => s.cfg.role = .initiator
  | .sendFinal => s.cfg.role = .initiator && s.cfg.variant ≠ .singleSided
  | .awaitPoll => s.cfg.role = .responder
  | .sendResponse => s.cfg.role = .responder && tsAllValid s responderTs
  | .awaitFinal => s.cfg.role = .responder && s.cfg.variant ≠ .singleSided && tsAllValid s responderTs
  | .compute =>
    match s.cfg.role with
    | .initiator => tsAllValid s initiatorTs
    | .responder => s.cfg.variant ≠ .singleSided && tsAllValid s allTs

/-- No result flag is set. -/
def noResults (s : State) : Bool := !s.resultValid && !s.pdoaValid && !s.durValid && !s.wrapFlag

/-- While a cycle is in flight the radio has its key, no result of an earlier cycle is valid before the compute step,
and the frame that the cycle goes on with was validated (R80, R202). -/
def cycleFits (s : State) : Bool :=
  match s.phase with
  | .idle => true
  | .init => true
  | .fatal => true
  | .sendPoll => !s.firstCycle && noResults s && !s.vok
  | .awaitResponse => !s.firstCycle && noResults s && !s.vok
  | .awaitPoll => !s.firstCycle && noResults s && !s.vok
  | .sendResponse => !s.firstCycle && noResults s && s.vok
  | .awaitFinal => !s.firstCycle && noResults s && s.vok
  | .compute => !s.firstCycle && noResults s && s.vok
  | .sendFinal => !s.firstCycle && s.resultValid && s.vok

/-- The invariant of TRE. -/
def goodState (s : State) : Bool := memFits s && txLenFits s && fatalFits s && phaseFits s && cycleFits s

/-- The edges of the transition table with the build they need (R224); reset is not among them. -/
def phaseEdge (c : Config) (p q : Phase) : Prop :=
  (p = .init ∧ (q = .idle ∨ q = .fatal)) ∨
  (p = .idle ∧ c.role = .initiator ∧ q = .sendPoll) ∨
  (p = .idle ∧ c.role = .responder ∧ q = .awaitPoll) ∨
  (p = .sendPoll ∧ q = .awaitResponse) ∨
  (p = .awaitResponse ∧ (q = .idle ∨ q = .compute)) ∨
  (p = .compute ∧ q = .idle) ∨
  (p = .compute ∧ c.role = .initiator ∧ c.variant ≠ .singleSided ∧ q = .sendFinal) ∨
  (p = .sendFinal ∧ q = .idle) ∨
  (p = .awaitPoll ∧ (q = .idle ∨ q = .sendResponse)) ∨
  (p = .sendResponse ∧ c.variant = .singleSided ∧ q = .idle) ∨
  (p = .sendResponse ∧ c.variant ≠ .singleSided ∧ q = .awaitFinal) ∨
  (p = .awaitFinal ∧ (q = .idle ∨ q = .compute))

/-- Whether the next step takes the reset event. -/
def resetNext (s : State) : Bool := s.env.inputs.head? = some .reset

/-- Whether the next step is a command word written to CMD that decodes to `i`. -/
def commandNext (s : State) (i : Instr) : Prop :=
  ∃ w rest, s.env.inputs = .hostWrite 0x000 w :: rest ∧ decode w = .ok i

/-- The state after the next input has been taken off the list. -/
def afterInput (s : State) : State := withInputs s s.env.inputs.tail

/-! Terms of the statements. -/

/-- The binary64 register value `got` is the result `want`: the pattern itself, or some quiet NaN where `want` is a
NaN (R165: "any quiet NaN"). -/
def isResult (got want : DWord) : Prop :=
  if isNaN64 want then isNaN64 got = true ∧ got.getLsbD 51 = true else got = want

/-- The little-endian 4-byte field at offset `off` of a buffer holds the low 32 bits of `v` (R65). -/
def fieldAt (m : Memory) (b : Buf) (off : Nat) (v : DWord) : Prop :=
  ∀ j < 4, bufByte m b (off + j) = v.extractLsb' (8 * j) 8

/-- No byte outside the named buffer differs. -/
def sameOutside (b : Buf) (m n : Memory) : Prop := ∀ a, b.holds a = false → n.read a = m.read a

/-- Every byte reads the same. -/
def sameBytes (m n : Memory) : Prop := ∀ a, n.read a = m.read a

/-- The ten header bytes of `msg` at the start of a buffer outside the sequence number (R140, R141): frame control,
PAN ID, destination, source, function code. -/
def headerAt (m : Memory) (b : Buf) (c : Config) (k : KeyMaterial) (msg : Msg) : Prop :=
  let d := if outbound c msg then k.dstAddr else k.srcAddr
  let s := if outbound c msg then k.srcAddr else k.dstAddr
  bufByte m b 0 = 0x41 ∧ bufByte m b 1 = 0x88 ∧ bufByte m b 3 = 0xCA ∧ bufByte m b 4 = 0xDE ∧
  bufByte m b 5 = d.extractLsb' 0 8 ∧ bufByte m b 6 = d.extractLsb' 8 8 ∧
  bufByte m b 7 = s.extractLsb' 0 8 ∧ bufByte m b 8 = s.extractLsb' 8 8 ∧
  bufByte m b 9 = functionCode c msg

/-- The timestamp registers a command reads (R130, R142, R161, R164, R167, R233). -/
def readsTs : Instr → List TsReg
  | .enc32 ts _ => (tsReg? ts).toList
  | .dec32 _ _ => []
  | .txsched msg => if msg = 1 then [.pollRx] else if msg = 2 then [.respRx] else []
  | .build msg => if msg = 1 then [.pollRx, .respTx] else if msg = 2 then [.pollTx, .respRx, .finalTx] else []
  | .validate _ => []
  | .tofss => initiatorTs
  | .tofds => allTs
  | .pdoacvt => []
  | .durms a b => (tsReg? a).toList ++ (tsReg? b).toList
  | .postkey => []
  | .applykey => []
  | .armcyc => []
  | .seqinc => []
  | .errinc _ _ => []
  | .tsclr => []
  | .deliver => []
  | .run => []

/-- The command names the Final message (R97: "FINAL while VARIANT = SingleSided"). -/
def namesFinal : Instr → Bool
  | .enc32 _ _ => false
  | .dec32 _ _ => false
  | .txsched msg => msg = 2
  | .build msg => msg = 2
  | .validate msg => msg = 2
  | .tofss => false
  | .tofds => false
  | .pdoacvt => false
  | .durms _ _ => false
  | .postkey => false
  | .applykey => false
  | .armcyc => false
  | .seqinc => false
  | .errinc _ _ => false
  | .tsclr => false
  | .deliver => false
  | .run => false

/-- One row of the opcode map: mask, match, and the command it selects from the operand bytes A and B (R96). -/
structure OpRow where
  mask : Word
  pattern : Word
  make : Byte → Byte → Instr

/-- The opcode map (R96). -/
def opcodeMap : List OpRow :=
  [⟨0xFF0000FF, 0x00000001, .enc32⟩, ⟨0xFF0000FF, 0x00000002, .dec32⟩,
   ⟨0xFFFF00FF, 0x00000003, fun a _ => .txsched a⟩, ⟨0xFFFF00FF, 0x00000010, fun a _ => .build a⟩,
   ⟨0xFFFF00FF, 0x00000011, fun a _ => .validate a⟩, ⟨0xFFFFFFFF, 0x00000020, fun _ _ => .tofss⟩,
   ⟨0xFFFFFFFF, 0x00000021, fun _ _ => .tofds⟩, ⟨0xFFFFFFFF, 0x00000022, fun _ _ => .pdoacvt⟩,
   ⟨0xFF0000FF, 0x00000023, .durms⟩, ⟨0xFFFFFFFF, 0x00000030, fun _ _ => .postkey⟩,
   ⟨0xFFFFFFFF, 0x00000031, fun _ _ => .applykey⟩, ⟨0xFFFFFFFF, 0x00000032, fun _ _ => .armcyc⟩,
   ⟨0xFFFFFFFF, 0x00000040, fun _ _ => .seqinc⟩, ⟨0xFF0000FF, 0x00000041, .errinc⟩,
   ⟨0xFFFFFFFF, 0x00000042, fun _ _ => .tsclr⟩, ⟨0xFFFFFFFF, 0x00000043, fun _ _ => .deliver⟩,
   ⟨0xFFFFFFFF, 0x00000050, fun _ _ => .run⟩]

/-- The exact value of a finite binary64 pattern; 0 for an infinity or a NaN. -/
def f64Value (v : DWord) : ℚ :=
  match unpack64 v with
  | .fin neg m e => (if neg then -(m : ℚ) else m) * (2 : ℚ) ^ e
  | .inf _ => 0
  | .nan => 0

/-- Neither an infinity nor a NaN. -/
def isFinite64 (v : DWord) : Bool :=
  match unpack64 v with
  | .fin _ _ _ => true
  | .inf _ => false
  | .nan => false

/-- The result registers are as before. -/
def sameResults (s t : State) : Prop := t.tofDtu = s.tofDtu ∧ t.tofS = s.tofS ∧ t.distM = s.distM

end Sys2Proof.Machine
end

