-- ==== Sys2Proof/Certificates/Slice0/Obligations.lean ====
section
/-! DEFINITION. The statements for the provers, listed in OBLIGATIONS.json. The pending inputs, the pending radio
answers and the radio call trace they name are the model's record of the outside world: what an input is, that an answer
at hand is used, and that `wait_status` joins the trace when it returns, are assumption log 1, 2 and 3. -/

open Sys2Proof Sys2Proof.Machine

/-- For every command, the word the encoder writes decodes to that command, with every operand at every value its
8-bit field admits; and a word that decodes to a command is the word the encoder writes for it, so no bit of a
legal word is ignored. -/
def Obligations.DecodeEncodeAgree : Prop :=
  ∀ i : Instr, decode (encode i) = .ok i ∧ ∀ w : Word, decode w = .ok i → w = encode i

/-- For every row of the opcode map (mask, match, command) and every word w: when w & mask = match, w decodes to
that row's command with A from bits 15:8 and B from bits 23:16; a word that matches no row decodes to no
command. -/
def Obligations.OpcodeMapDecides : Prop :=
  (∀ row ∈ opcodeMap, ∀ w : Word, w &&& row.mask = row.pattern →
    decode w = .ok (row.make (w.extractLsb' 8 8) (w.extractLsb' 16 8))) ∧
  (∀ w : Word, (∀ row ∈ opcodeMap, w &&& row.mask ≠ row.pattern) → ∃ e, decode w = .error e)

/-- One word of each operand format, as the spec writes it, decodes to the command it stands for; a word with a bit
of Z set decodes to none. -/
def Obligations.SampleWordsDecode : Prop :=
  decode 0x000A0101 = .ok (.enc32 1 10) ∧ decode 0x000E0202 = .ok (.dec32 2 14) ∧
  decode 0x00000203 = .ok (.txsched 2) ∧ decode 0x00030023 = .ok (.durms 0 3) ∧
  decode 0x00050141 = .ok (.errinc 1 5) ∧ decode 0x00000050 = .ok .run ∧
  decode 0x01000001 = .error .reservedZ

/-- When the next input is a host write of the word w to CMD and w decodes to the command i, the step is exec of i
at the state with that input taken off the list; when w decodes to no command and the phase is not Fatal, the
step sets CMD_FAULT to ILLEGAL_OP and changes nothing else. With the sequencer's turn as the next input, or with
no input, the step is one sequencer step. The state that withFetchWord makes for a table word w runs exactly the
command the decoder reads from w, at the given state in Idle. That turns are inputs, and that withFetchWord
stands for a host write in Idle, are the model's choices (assumption log 1 and 18). -/
def Obligations.StepRunsDecodedCommand : Prop :=
  (∀ (s : State) (w : Word) (rest : List Input) (i : Instr),
    s.env.inputs = .hostWrite 0x000 w :: rest → decode w = .ok i → step s = exec i (withInputs s rest)) ∧
  (∀ (s : State) (w : Word) (rest : List Input) (e : DecodeError),
    s.env.inputs = .hostWrite 0x000 w :: rest → decode w = .error e → s.phase ≠ .fatal →
    step s = .next { withInputs s rest with cmdFault := .illegalOp }) ∧
  (∀ (s : State) (rest : List Input), s.env.inputs = .sequencer :: rest →
    step s = .next (seqStep (withInputs s rest))) ∧
  (∀ s : State, s.env.inputs = [] → step s = .next (seqStep s)) ∧
  (∀ (s : State) (w : Nat) (i : Instr),
    decodeTableWord 32 w = some i → step (s.withFetchWord 32 w) = exec i { s with phase := .idle })

/-- In Fatal every command leaves the state as it is, the sequencer has no step, a host write changes nothing, a
host read still answers and changes nothing else, and reset leaves Fatal for Init. No radio call is made by any
of the first four. The list in which a host read leaves its value is the model's own record (assumption log 14). -/
def Obligations.FatalIsAbsorbing : Prop :=
  ∀ s : State, s.phase = .fatal →
    (∀ i : Instr, exec i s = .next s) ∧ seqStep s = s ∧
    (∀ a v rest, s.env.inputs = .hostWrite a v :: rest → a % 4 = 0 → a ≤ 0x1B7 →
      step s = .next (withInputs s rest)) ∧
    (∀ a rest, s.env.inputs = .hostRead a :: rest → a % 4 = 0 → a ≤ 0x1B7 →
      step s = .next { s with env :=
        { s.env with inputs := rest, readBack := s.env.readBack ++ [regRead (withInputs s rest) a] } }) ∧
    (∀ rest, s.env.inputs = .reset :: rest → ∃ t, step s = .next t ∧ t.phase = .init)

/-- In every phase but Idle and Fatal, every command other than POSTKEY, whatever its operands, sets CMD_FAULT to
BUSY and changes nothing else: BUSY is checked before the operands. -/
def Obligations.BusyOutsideIdle : Prop :=
  ∀ (i : Instr) (s : State), i ≠ .postkey → s.phase ≠ .idle → s.phase ≠ .fatal →
    exec i s = .next { s with cmdFault := .busy }

/-- In Idle, a command whose operands the opcode table calls illegal, or that names FINAL in SingleSided, or a DEC32
whose field does not lie inside min(RXLEN, 24) bytes, sets CMD_FAULT to BAD_OPERAND and changes nothing else. -/
def Obligations.IllegalOperandFaults : Prop :=
  ∀ (i : Instr) (s : State), s.phase = .idle →
    (i.wellFormed = false ∨ (namesFinal i = true ∧ s.cfg.variant = .singleSided) ∨
      ∃ ts off, i = .dec32 ts off ∧ min s.rxLen.toNat 24 < off.toNat + 4) →
    exec i s = .next { s with cmdFault := .badOperand }

/-- In Idle, a command with legal operands that reads a timestamp register whose valid bit is 0 sets CMD_FAULT to
TS_INVALID and changes nothing else. -/
def Obligations.InvalidTimestampFaults : Prop :=
  ∀ (i : Instr) (s : State), s.phase = .idle → i.wellFormed = true →
    (namesFinal i = true → s.cfg.variant ≠ .singleSided) →
    (∃ r ∈ readsTs i, tsValid s r = false) →
    exec i s = .next { s with cmdFault := .tsInvalid }

/-- Whatever the command and the state, when the command leaves a fault code in CMD_FAULT, every other field of the
state is unchanged. -/
def Obligations.FaultingCommandChangesOnlyItsCode : Prop :=
  ∀ (i : Instr) (s t : State), exec i s = .next t → t.cmdFault ≠ .noFault →
    t = { s with cmdFault := t.cmdFault }

/-- In Idle, with a legal register whose valid bit is 1 and an offset of at most 20, ENC32 completes: byte off+j of
TXBUF is bits 8j+7:8j of the register for j below 4, every other byte of memory reads as before, CMD_FAULT is 0
and every other field is unchanged. -/
def Obligations.Enc32WritesLowWord : Prop :=
  ∀ (s : State) (ts off : Byte) (r : TsReg), s.phase = .idle → s.mem.wf = true → ts.toNat = r.index →
    off.toNat ≤ 20 → tsValid s r = true →
    ∃ t, exec (.enc32 ts off) s = .next t ∧ t = { s with mem := t.mem, cmdFault := .noFault } ∧
      fieldAt t.mem .tx off.toNat (tsVal s r) ∧
      ∀ a, (a < Buf.tx.base + off.toNat ∨ Buf.tx.base + off.toNat + 4 ≤ a) → t.mem.read a = s.mem.read a

/-- In Idle, with a legal register and a field inside min(RXLEN, 24) bytes, DEC32 completes: the register holds the
four bytes of RXBUF with the byte at off lowest, its upper 32 bits are 0 and its valid bit is 1; every other
register and every other field is unchanged, CMD_FAULT is 0. -/
def Obligations.Dec32ReadsField : Prop :=
  ∀ (s : State) (ts off : Byte) (r : TsReg), s.phase = .idle → ts.toNat = r.index →
    off.toNat + 4 ≤ min s.rxLen.toNat 24 →
    ∃ t, exec (.dec32 ts off) s = .next t ∧ t = { s with ts := t.ts, cmdFault := .noFault } ∧
      (tsVal t r).toNat = (bufByte s.mem .rx off.toNat).toNat + 256 * (bufByte s.mem .rx (off.toNat + 1)).toNat +
        65536 * (bufByte s.mem .rx (off.toNat + 2)).toNat + 16777216 * (bufByte s.mem .rx (off.toNat + 3)).toNat ∧
      tsValid t r = true ∧ ∀ q, q ≠ r → t.ts.get q = s.ts.get q

/-- After ENC32 of register i at a legal offset, in every Idle state whose RXBUF holds the four bytes written and
whose RXLEN covers them, DEC32 into register j gives the low 32 bits of register i zero-extended. Conversely,
DEC32 of a field followed by ENC32 of the same register at the same offset puts the field's four bytes into
TXBUF. -/
def Obligations.CodecRoundTrip : Prop :=
  (∀ (s t u : State) (i j off : Byte) (ri rj : TsReg), s.phase = .idle → s.mem.wf = true → i.toNat = ri.index →
    j.toNat = rj.index → off.toNat ≤ 20 → tsValid s ri = true → exec (.enc32 i off) s = .next t →
    u.phase = .idle → off.toNat + 4 ≤ u.rxLen.toNat →
    (∀ n < 4, bufByte u.mem .rx (off.toNat + n) = bufByte t.mem .tx (off.toNat + n)) →
    ∃ v, exec (.dec32 j off) u = .next v ∧ tsValid v rj = true ∧
      tsVal v rj = ((tsVal s ri).extractLsb' 0 32).setWidth 64) ∧
  (∀ (u : State) (j off : Byte) (rj : TsReg), u.phase = .idle → u.mem.wf = true → j.toNat = rj.index →
    off.toNat + 4 ≤ min u.rxLen.toNat 24 →
    ∃ v x, exec (.dec32 j off) u = .next v ∧ exec (.enc32 j off) v = .next x ∧
      ∀ n < 4, bufByte x.mem .tx (off.toNat + n) = bufByte u.mem .rx (off.toNat + n))

/-- In Idle, for a message that exists in the variant and whose timestamps are valid, BUILD completes: TXLEN is 12,
20 or 24, the header is the message's with SEQ as sequence number, the Response carries POLL_RX_TS at 10 and
RESP_TX_TS at 14, the Final POLL_TX_TS at 10, RESP_RX_TS at 14 and FINAL_TX_TS at 18, every later byte of TXBUF
is 0, no byte outside TXBUF differs, CMD_FAULT is 0 and every other field is unchanged. -/
def Obligations.BuildLaysOutFrame : Prop :=
  ∀ (s : State) (msg : Byte) (m : Msg), s.phase = .idle → s.mem.wf = true → msg? msg = some m →
    (m = .final → s.cfg.variant ≠ .singleSided) → tsAllValid s (readsTs (.build msg)) = true →
    ∃ t, exec (.build msg) s = .next t ∧ t = { s with mem := t.mem, txLen := t.txLen, cmdFault := .noFault } ∧
      headerAt t.mem .tx s.cfg s.mat m ∧ bufByte t.mem .tx 2 = s.seq ∧ sameOutside .tx s.mem t.mem ∧
      (m = .poll → t.txLen.toNat = 12 ∧ ∀ i, 10 ≤ i → i < 24 → bufByte t.mem .tx i = 0) ∧
      (m = .resp → t.txLen.toNat = 20 ∧ fieldAt t.mem .tx 10 (tsVal s .pollRx) ∧
        fieldAt t.mem .tx 14 (tsVal s .respTx) ∧ ∀ i, 18 ≤ i → i < 24 → bufByte t.mem .tx i = 0) ∧
      (m = .final → t.txLen.toNat = 24 ∧ fieldAt t.mem .tx 10 (tsVal s .pollTx) ∧
        fieldAt t.mem .tx 14 (tsVal s .respRx) ∧ fieldAt t.mem .tx 18 (tsVal s .finalTx) ∧
        ∀ i, 22 ≤ i → i < 24 → bufByte t.mem .tx i = 0)

/-- In Idle, for a message that exists in the variant, VALIDATE completes: VOK is 1 exactly when RXLEN is the
message's length and the header bytes of RXBUF other than the sequence number are the message's; CMD_FAULT is 0
and every other field, all of memory among them, is unchanged. -/
def Obligations.ValidateChecksLengthAndHeader : Prop :=
  ∀ (s : State) (msg : Byte) (m : Msg), s.phase = .idle → msg? msg = some m →
    (m = .final → s.cfg.variant ≠ .singleSided) →
    ∃ b, exec (.validate msg) s = .next { s with vok := b, cmdFault := .noFault } ∧
      (b = true ↔ s.rxLen.toNat = (match m with | .poll => 12 | .resp => 20 | .final => 24) ∧
        headerAt s.mem .rx s.cfg s.mat m)

/-- When VALIDATE accepts the frame in RXBUF, then with byte i of the ten header bytes replaced by any value it
accepts the frame exactly when i is 2 (the sequence number) or the value is the byte that was there. -/
def Obligations.SequenceNumberIsNotCompared : Prop :=
  ∀ (s t : State) (msg b : Byte) (i : Nat), s.phase = .idle → s.mem.wf = true →
    exec (.validate msg) s = .next t → t.cmdFault = .noFault → t.vok = true → i < 10 →
    ∃ t', exec (.validate msg) (storeBytes s .rx i [b]) = .next t' ∧ t'.cmdFault = .noFault ∧
      t'.vok = decide (i = 2 ∨ b = bufByte s.mem .rx i)

/-- Two devices of opposite roles, the same variant and function codes and mirrored addresses: the frame that BUILD
of a message puts into TXBUF on the message's sender is accepted by VALIDATE of that message on the other device
when it has received those bytes (up to the two checksum bytes) with RXLEN equal to TXLEN, whatever the sequence
number. -/
def Obligations.BuiltFrameValidatesAtPeer : Prop :=
  ∀ (a b t : State) (msg : Byte) (m : Msg),
    a.cfg.role ≠ b.cfg.role → a.cfg.variant = b.cfg.variant → a.cfg.codes = b.cfg.codes →
    a.mat.srcAddr = b.mat.dstAddr → a.mat.dstAddr = b.mat.srcAddr →
    a.phase = .idle → b.phase = .idle → a.mem.wf = true → msg? msg = some m → outbound a.cfg m = true →
    exec (.build msg) a = .next t → t.cmdFault = .noFault →
    b.rxLen.toNat = t.txLen.toNat →
    (∀ i, i + 2 < t.txLen.toNat → bufByte b.mem .rx i = bufByte t.mem .tx i) →
    ∃ v, exec (.validate msg) b = .next v ∧ v.cmdFault = .noFault ∧ v.vok = true

/-- In Idle with the four timestamps valid, TOFSS completes: TOF_DTU, TOF_S and DIST_M are the binary64 formula in
its written order over the 32-bit wrapped differences (some quiet NaN where the formula gives a NaN), WRAP_FLAG
says whether the local 40-bit interval is 2^32 or more, RESULT_VALID is 1, CMD_FAULT is 0 and every other field
is unchanged (the counter of the free values may advance). -/
def Obligations.TofssComputes : Prop :=
  ∀ s : State, s.phase = .idle → tsAllValid s [.pollTx, .pollRx, .respTx, .respRx] = true →
    ∃ t, exec .tofss s = .next t ∧
      t = { s with
        tofDtu := t.tofDtu, tofS := t.tofS, distM := t.distM, resultValid := true,
        wrapFlag := t.wrapFlag, cmdFault := .noFault, env := { s.env with free := t.env.free } } ∧
      (let rtdInit := f64OfNat (((tsVal s .respRx).toNat + 2 ^ 64 - (tsVal s .pollTx).toNat) % 2 ^ 32)
       let rtdResp := f64OfNat (((tsVal s .respTx).toNat + 2 ^ 64 - (tsVal s .pollRx).toNat) % 2 ^ 32)
       let k := fdiv (f64OfInt s.kRaw.toInt) (f64OfNat 67108864)
       isResult t.tofDtu (fdiv (fsub rtdInit (fmul rtdResp (fsub (f64OfNat 1) k))) (f64OfNat 2))) ∧
      isResult t.tofS (fmul t.tofDtu dtuS) ∧ isResult t.distM (fmul t.tofS s.cfg.cMps) ∧
      (t.wrapFlag = true ↔
        2 ^ 32 ≤ ((tsVal s .respRx).toNat + 2 ^ 64 - (tsVal s .pollTx).toNat) % 2 ^ 40)

/-- For every two timestamp registers and every 64-bit c, the 32-bit wrapped difference of (x + c, y + c) equals
that of (x, y), and where the true interval lies in [0, 2^32) the difference is the true interval; and TOFSS
with POLL_TX_TS and RESP_RX_TS both moved by c leaves the same state but for those two registers. -/
def Obligations.TofssIgnoresCommonOffset : Prop :=
  (∀ x y c : DWord, trunc32 (x + c) - trunc32 (y + c) = trunc32 x - trunc32 y) ∧
  (∀ x y : DWord, y.toNat ≤ x.toNat → x.toNat - y.toNat < 2 ^ 32 →
    (trunc32 x - trunc32 y).toNat = x.toNat - y.toNat) ∧
  (∀ (s t : State) (c : DWord), s.phase = .idle →
    tsAllValid s [.pollTx, .pollRx, .respTx, .respRx] = true → exec .tofss s = .next t →
    exec .tofss (setTs (setTs s .pollTx (tsVal s .pollTx + c)) .respRx (tsVal s .respRx + c)) =
      .next (setTs (setTs t .pollTx (tsVal s .pollTx + c)) .respRx (tsVal s .respRx + c)))

/-- For every natural number below 2^53 the binary64 pattern that f64_of_u32 and f64_of_u40 give is finite and its
exact value is the number. -/
def Obligations.NaturalsConvertExactly : Prop :=
  ∀ n : Nat, n < 2 ^ 53 → isFinite64 (f64OfNat n) = true ∧ f64Value (f64OfNat n) = n

/-- In Idle with all six timestamps valid, TOFDS completes: TOF_DTU is (Ra*Rb - Da*Db) / (((Ra+Rb)+Da)+Db) in
binary64, TOF_S and DIST_M follow from it (some quiet NaN where an operation gives a NaN), WRAP_FLAG says
whether one of the responder's two local 40-bit intervals is 2^32 or more, RESULT_VALID is 1, CMD_FAULT is 0 and
every other field is unchanged (the counter of the free values may advance). -/
def Obligations.TofdsComputes : Prop :=
  ∀ s : State, s.phase = .idle → tsAllValid s allTs = true →
    ∃ t, exec .tofds s = .next t ∧
      t = { s with
        tofDtu := t.tofDtu, tofS := t.tofS, distM := t.distM, resultValid := true,
        wrapFlag := t.wrapFlag, cmdFault := .noFault, env := { s.env with free := t.env.free } } ∧
      (let ra := f64OfNat (((tsVal s .respRx).toNat + 2 ^ 64 - (tsVal s .pollTx).toNat) % 2 ^ 32)
       let rb := f64OfNat (((tsVal s .finalRx).toNat + 2 ^ 64 - (tsVal s .respTx).toNat) % 2 ^ 32)
       let da := f64OfNat (((tsVal s .finalTx).toNat + 2 ^ 64 - (tsVal s .respRx).toNat) % 2 ^ 32)
       let db := f64OfNat (((tsVal s .respTx).toNat + 2 ^ 64 - (tsVal s .pollRx).toNat) % 2 ^ 32)
       isResult t.tofDtu
        (fdiv (fsub (fmul ra rb) (fmul da db)) (fadd (fadd (fadd ra rb) da) db))) ∧
      isResult t.tofS (fmul t.tofDtu dtuS) ∧ isResult t.distM (fmul t.tofS s.cfg.cMps) ∧
      (t.wrapFlag = true ↔
        2 ^ 32 ≤ ((tsVal s .respTx).toNat + 2 ^ 64 - (tsVal s .pollRx).toNat) % 2 ^ 40 ∨
        2 ^ 32 ≤ ((tsVal s .finalRx).toNat + 2 ^ 64 - (tsVal s .respTx).toNat) % 2 ^ 40)

/-- In Idle with all six timestamps valid and all four wrapped differences 0, TOFDS completes with RESULT_VALID = 1
and CMD_FAULT = 0, and TOF_DTU, TOF_S and DIST_M are quiet NaNs. Which NaNs is a free value of the model
(assumption log 8). -/
def Obligations.TofdsDegenerateGivesNaN : Prop :=
  ∀ s : State, s.phase = .idle → tsAllValid s allTs = true →
    d32 s .respRx .pollTx = 0 → d32 s .finalRx .respTx = 0 → d32 s .finalTx .respRx = 0 → d32 s .respTx .pollRx = 0 →
    ∃ t, exec .tofds s = .next t ∧ t.resultValid = true ∧ t.cmdFault = .noFault ∧
      (isNaN64 t.tofDtu = true ∧ t.tofDtu.getLsbD 51 = true) ∧ (isNaN64 t.tofS = true ∧ t.tofS.getLsbD 51 = true) ∧
      (isNaN64 t.distM = true ∧ t.distM.getLsbD 51 = true)

/-- In Idle PDOACVT completes: PDOA_DEG is the raw i16 divided by 2048, times 180, divided by the binary64 of pi,
rounded once to binary32; PDOA_VALID is 1, CMD_FAULT is 0 and every other field is unchanged. -/
def Obligations.PdoacvtConverts : Prop :=
  ∀ s : State, s.phase = .idle →
    exec .pdoacvt s = .next { s with
      pdoaDeg := f32OfF64 (fdiv (fmul (fdiv (f64OfInt s.pdoaRaw.toInt) (f64OfNat 2048)) (f64OfNat 180))
        0x400921FB54442D18)
      pdoaValid := true, cmdFault := .noFault }

/-- In Idle with two legal registers that are valid, DURMS completes: DUR_MS is the interval from the first to the
second modulo 2^40, times DTU_S, times 1000, in binary64; DUR_VALID is 1, CMD_FAULT is 0 and every other field
is unchanged. -/
def Obligations.DurmsMeasures : Prop :=
  ∀ (s : State) (a b : Byte) (ra rb : TsReg), s.phase = .idle → a.toNat = ra.index → b.toNat = rb.index →
    tsValid s ra = true → tsValid s rb = true →
    exec (.durms a b) s = .next { s with
      durMs := fmul (fmul (f64OfNat (((tsVal s rb).toNat + 2 ^ 64 - (tsVal s ra).toNat) % 2 ^ 40))
        0x3DB135183BCE48FA) (f64OfNat 1000)
      durValid := true, cmdFault := .noFault }

/-- In every phase but Fatal POSTKEY completes: the mailbox holds the eight big-endian words and the two big-endian
addresses of BLOB, whole, PEND_VALID is 1, CMD_FAULT is 0, and every other field, the active key material among
them, is unchanged. -/
def Obligations.PostkeyFillsMailbox : Prop :=
  ∀ s : State, s.phase ≠ .fatal →
    let x := fun i => bufByte s.mem .blob i
    exec .postkey s = .next { s with
      pend :=
        { valid := true
          key := ⟨be32 (x 0) (x 1) (x 2) (x 3), be32 (x 4) (x 5) (x 6) (x 7), be32 (x 8) (x 9) (x 10) (x 11),
            be32 (x 12) (x 13) (x 14) (x 15)⟩
          iv := ⟨be32 (x 16) (x 17) (x 18) (x 19), be32 (x 20) (x 21) (x 22) (x 23),
            be32 (x 24) (x 25) (x 26) (x 27), be32 (x 28) (x 29) (x 30) (x 31)⟩
          dest := be16 (x 32) (x 33)
          src := be16 (x 34) (x 35) }
      cmdFault := .noFault }

/-- In Idle APPLYKEY completes. With a rekey pending it writes key, IV and both addresses (crossed on a Responder),
sets FIRST_CYCLE and clears PEND_VALID; with none pending it changes nothing. CMD_FAULT is 0 and every other
field is unchanged; no radio call is made. -/
def Obligations.ApplykeyConsumesMailbox : Prop :=
  ∀ s : State, s.phase = .idle →
    (s.pend.valid = true → exec .applykey s = .next { s with
      mat :=
        { key := s.pend.key
          iv := s.pend.iv
          srcAddr := if s.cfg.role = .initiator then s.pend.src else s.pend.dest
          dstAddr := if s.cfg.role = .initiator then s.pend.dest else s.pend.src }
      firstCycle := true, pend := { s.pend with valid := false }, cmdFault := .noFault }) ∧
    (s.pend.valid = false → exec .applykey s = .next { s with cmdFault := .noFault })

/-- An Initiator and a Responder in Idle with the same pending rekey: APPLYKEY gives the Initiator source =
delivered source and destination = delivered destination, the Responder the two crossed; so the pairs are mirror
images, key and IV are equal, and with the same variant and function codes both hold the same template for every
message. -/
def Obligations.CrossoverMirrorsAddresses : Prop :=
  ∀ a b : State, a.phase = .idle → b.phase = .idle → a.cfg.role = .initiator → b.cfg.role = .responder →
    a.pend.valid = true → b.pend = a.pend →
    ∃ a' b', exec .applykey a = .next a' ∧ exec .applykey b = .next b' ∧
      a'.mat.srcAddr = a.pend.src ∧ a'.mat.dstAddr = a.pend.dest ∧
      b'.mat.srcAddr = a.pend.dest ∧ b'.mat.dstAddr = a.pend.src ∧
      a'.mat.key = b'.mat.key ∧ a'.mat.iv = b'.mat.iv ∧
      (a.cfg.variant = b.cfg.variant → a.cfg.codes = b.cfg.codes →
        ∀ m, template a'.cfg a'.mat m = template b'.cfg b'.mat m)

/-- In Idle ARMCYC completes: with FIRST_CYCLE = 1 it issues set_sts_key and set_sts_iv with the active material, in
that order, and clears FIRST_CYCLE; with FIRST_CYCLE = 0 it issues set_sts_iv_low of IV[0] alone. CMD_FAULT is 0
and every other field is unchanged: TRE never advances the IV. -/
def Obligations.ArmcycProgramsRadio : Prop :=
  ∀ s : State, s.phase = .idle →
    (s.firstCycle = true → exec .armcyc s = .next { s with
      firstCycle := false, cmdFault := .noFault
      env := { s.env with calls := s.env.calls ++ [.setStsKey s.mat.key] ++ [.setStsIv s.mat.iv] } }) ∧
    (s.firstCycle = false → exec .armcyc s = .next { s with
      cmdFault := .noFault, env := { s.env with calls := s.env.calls ++ [.setStsIvLow s.mat.iv.w0] } })

/-- In every phase but Idle, whatever the next input (a POSTKEY among them), a step that is not the reset event
leaves the active key, IV and addresses as they are; and the cycle start that finds a rekey pending in Idle, by
RUN or by the sequencer under AUTO, makes it the active material before anything else: its radio calls begin
with the new key and the new IV, and an Initiator's Poll carries the new addresses. -/
def Obligations.KeyMaterialIsStableInFlight : Prop :=
  (∀ s t : State, s.phase ≠ .idle → resetNext s = false → step s = .next t → t.mat = s.mat) ∧
  (∀ s t : State, s.phase = .idle → s.mem.wf = true → s.pend.valid = true →
    (exec .run s = .next t ∨ (s.auto = true ∧ seqStep s = t)) →
    t.mat.key = s.pend.key ∧ t.mat.iv = s.pend.iv ∧
      (t.mat.srcAddr, t.mat.dstAddr) =
        (if s.cfg.role = .initiator then (s.pend.src, s.pend.dest) else (s.pend.dest, s.pend.src)) ∧
      (∃ more, t.env.calls = s.env.calls ++ [.setStsKey s.pend.key, .setStsIv s.pend.iv] ++ more) ∧
      (s.cfg.role = .initiator → headerAt t.mem .tx s.cfg t.mat .poll))

/-- In Idle SEQINC completes: SEQ becomes SEQ + 1 modulo 256, CMD_FAULT is 0 and every other field is unchanged;
outside Idle and Fatal it faults BUSY; its word is 0x00000040. A step that changes SEQ is the reset event, or
SEQINC in Idle, or a step in a Send phase whose wait returned a status with TX_DONE set; in both latter cases
SEQ advances by 1. -/
def Obligations.SeqincAdvances : Prop :=
  decode 0x00000040 = .ok .seqinc ∧
  (∀ s : State, s.phase = .idle →
    exec .seqinc s = .next { s with seq := BitVec.ofNat 8 ((s.seq.toNat + 1) % 256), cmdFault := .noFault }) ∧
  (∀ s : State, s.phase ≠ .idle → s.phase ≠ .fatal → exec .seqinc s = .next { s with cmdFault := .busy }) ∧
  (∀ s t : State, step s = .next t → t.seq ≠ s.seq →
    resetNext s = true ∨
    (t.seq = s.seq + 1 ∧ ((s.phase = .idle ∧ commandNext s .seqinc) ∨
      ((s.phase = .sendPoll ∨ s.phase = .sendResponse ∨ s.phase = .sendFinal) ∧
        ∃ st rest, s.env.answers.status = st :: rest ∧ st.getLsbD 0 = true))))

/-- In Idle with a legal kind ERRINC completes: the kind's counter is one more modulo 2^32, the other counters are
unchanged, RXERR_MASK is the mask for kind RxError and unchanged otherwise, CMD_FAULT is 0 and every other field
is unchanged. -/
def Obligations.ErrincCounts : Prop :=
  ∀ (s : State) (kind mask : Byte) (k : ErrKind), s.phase = .idle → kind.toNat = k.code →
    ∃ t, exec (.errinc kind mask) s = .next t ∧
      t = { s with
        errCnt := t.errCnt, rxErrMask := (if kind = 1 then mask else s.rxErrMask), cmdFault := .noFault } ∧
      (t.errCnt.get k).toNat = ((s.errCnt.get k).toNat + 1) % 2 ^ 32 ∧
      ∀ j, j ≠ k → t.errCnt.get j = s.errCnt.get j

/-- The word 0x00000042 is TSCLR. In Idle it completes: TSV reads 0, no timestamp register is valid, each reads 0 at
the host port, CMD_FAULT is 0 and every field but the timestamp file is unchanged. -/
def Obligations.TsclrDiscards : Prop :=
  decode 0x00000042 = .ok .tsclr ∧
  ∀ s : State, s.phase = .idle →
    ∃ t, exec .tsclr s = .next t ∧ t = { s with ts := t.ts, cmdFault := .noFault } ∧ regRead t 0x014 = 0 ∧
      ∀ r, tsValid t r = false ∧ regRead t (0x040 + 8 * r.index) = 0 ∧ regRead t (0x044 + 8 * r.index) = 0

/-- In Idle, for RESP or (outside SingleSided) FINAL with the receive timestamp valid, TXSCHED completes: x is the
timestamp plus the reply delay modulo 2^40, DLYTIME is bits 39:8 of x, the transmit timestamp is x with its low
9 bits cleared plus TX_ANT_DLY modulo 2^40 and becomes valid; the other timestamps are unchanged, CMD_FAULT is 0
and every other field is unchanged. -/
def Obligations.TxschedSchedules : Prop :=
  ∀ (s : State) (msg : Byte) (src dst : TsReg) (dly : Nat), s.phase = .idle →
    ((msg = 1 ∧ src = .pollRx ∧ dst = .respTx ∧
        dly = (let d := s.cfg.delays.pick s.cfg.variant
          (d.turnaround + d.datarate + d.preamble + d.sts) * s.cfg.uusToDtu)) ∨
      (msg = 2 ∧ s.cfg.variant ≠ .singleSided ∧ src = .respRx ∧ dst = .finalTx ∧
        dly = (s.cfg.delays.pick s.cfg.variant).final * s.cfg.uusToDtu)) →
    tsValid s src = true →
    ∃ t, exec (.txsched msg) s = .next t ∧
      t = { s with ts := t.ts, dlyTime := t.dlyTime, cmdFault := .noFault } ∧
      (let x := ((tsVal s src).toNat % 2 ^ 40 + dly) % 2 ^ 40
       t.dlyTime.toNat = x / 256 ∧
       (tsVal t dst).toNat = (x / 512 * 512 + s.cfg.txAntDly.toNat) % 2 ^ 40) ∧
      tsValid t dst = true ∧ ∀ q, q ≠ dst → t.ts.get q = s.ts.get q

/-- In Idle with RESULT_VALID = 1 DELIVER completes: the sink receives 0x62 and the eight bytes of DIST_M, low byte
first, whatever DIST_M holds, CMD_FAULT is 0 and every other field is unchanged, RESULT_VALID among them. With
RESULT_VALID = 0 it sets CMD_FAULT to NO_RESULT and emits nothing. -/
def Obligations.DeliverEmits : Prop :=
  ∀ s : State, s.phase = .idle →
    (s.resultValid = true →
      ∃ msg : List Byte, exec .deliver s = .next { s with
          cmdFault := .noFault, env := { s.env with sink := s.env.sink ++ msg } } ∧
        msg.length = 9 ∧ msg.getD 0 0 = 0x62 ∧ ∀ j < 8, msg.getD (j + 1) 0 = s.distM.extractLsb' (8 * j) 8) ∧
    (s.resultValid = false → exec .deliver s = .next { s with cmdFault := .noResult })

/-- In Idle on an Initiator RUN completes in SendPoll: a pending rekey is the active material, no timestamp and no
result is valid, VOK and WRAP_FLAG are 0, TXBUF holds the Poll with its header, SEQ and zeros in bytes 10 to 23,
and the radio calls are, in order, key and IV (on the first cycle or after a rekey) or IV[0], the frame, the
receive parameters, the immediate transmission with a response expected. SEQ, counters, other registers and
every byte outside TXBUF are unchanged. With AUTO = 1, a rekey pending or none, the sequencer's turn in Idle
leaves exactly the state RUN leaves but for CMD_FAULT, which it leaves alone; with AUTO = 0 it leaves the state
as it is. -/
def Obligations.RunStartsInitiatorCycle : Prop :=
  ∀ s : State, s.phase = .idle → s.mem.wf = true → s.cfg.role = .initiator →
    ∃ t, exec .run s = .next t ∧ t.phase = .sendPoll ∧ t.cmdFault = .noFault ∧ (∀ r, tsValid t r = false) ∧
      noResults t = true ∧ t.vok = false ∧ t.firstCycle = false ∧ t.pend = { s.pend with valid := false } ∧
      t.mat = (if s.pend.valid then ⟨s.pend.key, s.pend.iv, s.pend.src, s.pend.dest⟩ else s.mat) ∧
      headerAt t.mem .tx s.cfg t.mat .poll ∧ bufByte t.mem .tx 2 = s.seq ∧
      (∀ i, 10 ≤ i → i < 24 → bufByte t.mem .tx i = 0) ∧ sameOutside .tx s.mem t.mem ∧
      t.env = { s.env with calls := s.env.calls ++
        (if s.firstCycle || s.pend.valid then [.setStsKey t.mat.key, .setStsIv t.mat.iv]
          else [.setStsIvLow t.mat.iv.w0]) ++
        [.writeTxFrame (memRead t.mem .tx 0 12) 12,
          .setRxParams s.cfg.pollTxToRespRxDly s.cfg.respRxTimeout s.cfg.preTimeoutPac, .armTx .immediate true] } ∧
      t = { s with
        phase := t.phase, ts := t.ts, vok := t.vok, resultValid := t.resultValid, pdoaValid := t.pdoaValid
        durValid := t.durValid, wrapFlag := t.wrapFlag, cmdFault := t.cmdFault, firstCycle := t.firstCycle
        mat := t.mat, pend := t.pend, mem := t.mem, txLen := 12, env := t.env } ∧
      (s.auto = true → seqStep s = { t with cmdFault := s.cmdFault }) ∧ (s.auto = false → seqStep s = s)

/-- In Idle on a Responder RUN completes in AwaitPoll: a pending rekey is the active material with its addresses
crossed, no timestamp and no result is valid, VOK and WRAP_FLAG are 0, and the radio calls are, in order, key
and IV (on the first cycle or after a rekey) or IV[0], the receive parameters, the immediate receiver. SEQ,
counters, buffers and other registers are unchanged. With AUTO = 1, a rekey pending or none, the sequencer's
turn in Idle leaves exactly the state RUN leaves but for CMD_FAULT, which it leaves alone; with AUTO = 0 it
leaves the state as it is. -/
def Obligations.RunStartsResponderCycle : Prop :=
  ∀ s : State, s.phase = .idle → s.cfg.role = .responder →
    ∃ t, exec .run s = .next t ∧ t.phase = .awaitPoll ∧ t.cmdFault = .noFault ∧ (∀ r, tsValid t r = false) ∧
      noResults t = true ∧ t.vok = false ∧ t.firstCycle = false ∧ t.pend = { s.pend with valid := false } ∧
      t.mat = (if s.pend.valid then ⟨s.pend.key, s.pend.iv, s.pend.dest, s.pend.src⟩ else s.mat) ∧
      t.env = { s.env with calls := s.env.calls ++
        (if s.firstCycle || s.pend.valid then [.setStsKey t.mat.key, .setStsIv t.mat.iv]
          else [.setStsIvLow t.mat.iv.w0]) ++
        [.setRxParams 0 s.cfg.pollRxTimeout s.cfg.preTimeoutPac, .armRx .immediate] } ∧
      t = { s with
        phase := t.phase, ts := t.ts, vok := t.vok, resultValid := t.resultValid, pdoaValid := t.pdoaValid
        durValid := t.durValid, wrapFlag := t.wrapFlag, cmdFault := t.cmdFault, firstCycle := t.firstCycle
        mat := t.mat, pend := t.pend, env := t.env } ∧
      (s.auto = true → seqStep s = { t with cmdFault := s.cmdFault }) ∧ (s.auto = false → seqStep s = s)

/-- In Init, with the radio's answer to configure at hand, the sequencer's step issues configure and goes to Idle on
ok, to Fatal with FATAL_CODE 1 on not_responding and with 2 on rejected; nothing else changes, and no other
radio call is made. In Init STATUS.BUSY reads 1, every command but POSTKEY faults BUSY and changes nothing else,
and POSTKEY completes: the mailbox and CMD_FAULT alone may change. -/
def Obligations.InitStepFollowsRadioAnswer : Prop :=
  (∀ (s : State) (a : ConfigureAnswer) (rest : List ConfigureAnswer), s.phase = .init →
    s.env.answers.configure = a :: rest →
    seqStep s = { s with
      phase := (if a = .ok then .idle else .fatal),
      fatalCode := (match a with | .ok => s.fatalCode | .notResponding => 1 | .rejected => 2),
      env := { s.env with
        answers := { s.env.answers with configure := rest },
        calls := s.env.calls ++ [.configure s.cfg.channelParams] } }) ∧
  (∀ s : State, s.phase = .init → (regRead s 0x004).getLsbD 4 = true ∧
    (∀ i, i ≠ .postkey → exec i s = .next { s with cmdFault := .busy }) ∧
    ∃ t, exec .postkey s = .next t ∧ t.pend.valid = true ∧ t = { s with pend := t.pend, cmdFault := .noFault })

/-- In a receive wait phase, when the radio's status shows a bit of RXMASK and not RX_FRAME_GOOD, the sequencer's
step clears those bits, counts RxTimeout if RX_TIMEOUT is set, else PreambleNotDetected if PREAMBLE_TIMEOUT is
set, else RxError with its mask kept, discards the TimestampSet and goes to Idle; every other field is
unchanged, SEQ, key material, mailbox and results among them. -/
def Obligations.BadStatusEntersError : Prop :=
  ∀ (s : State) (st : Word) (rest : List Word) (k : ErrKind),
    (s.phase = .awaitPoll ∨ s.phase = .awaitResponse ∨ s.phase = .awaitFinal) →
    s.env.answers.status = st :: rest → st &&& 0x0000FF0E ≠ 0 → st.getLsbD 1 = false →
    k = (if st.getLsbD 2 then .rxTimeout else if st.getLsbD 3 then .preambleNotDetected else .rxError) →
    seqStep s = { s with
      phase := .idle, ts := (clearTs s).ts, errCnt := s.errCnt.bump k
      rxErrMask := (if k = .rxError then st.extractLsb' 8 8 else s.rxErrMask)
      env := { s.env with
        answers := { s.env.answers with status := rest }
        calls := s.env.calls ++ [.waitStatus 0x0000FF0E] ++ [.clearStatus (st &&& 0x0000FF0E)] } }

/-- In a receive wait phase, when the status shows RX_FRAME_GOOD, whatever other bits, and the STS quality read
fails or gives a negative index, the sequencer's step counts BadStsQuality, discards the TimestampSet and goes
to Idle; the frame is not read: RXBUF, RXLEN, VOK and every other field are unchanged. -/
def Obligations.BadStsEntersError : Prop :=
  ∀ (s : State) (st : Word) (rest : List Word) (q : StsAnswer) (qs : List StsAnswer),
    (s.phase = .awaitPoll ∨ s.phase = .awaitResponse ∨ s.phase = .awaitFinal) →
    s.env.answers.status = st :: rest → st.getLsbD 1 = true →
    s.env.answers.sts = q :: qs → (q.ok = false ∨ q.quality.toInt < 0) →
    seqStep s = { s with
      phase := .idle, ts := (clearTs s).ts, errCnt := s.errCnt.bump .badStsQuality
      env := { s.env with
        answers := { s.env.answers with status := rest, sts := qs }
        calls := s.env.calls ++ [.waitStatus 0x0000FF0E] ++ [.clearStatus (st &&& 0x0000FF0E)] ++
          [.readStsQuality] } }

/-- In AwaitPoll, AwaitResponse, or AwaitFinal outside SingleSided, when the status is good, the STS is good and the
frame read has another length than the expected message, or differs from its template in a header byte other
than byte 2 (the sequence number), the sequencer's step keeps the frame in RXBUF and RXLEN, sets VOK to 0,
counts BadFrameHeader, discards the TimestampSet and goes to Idle; results, SEQ, TXBUF, BLOB and every other
field are unchanged, and no timestamp is read from the radio. -/
def Obligations.BadHeaderEntersError : Prop :=
  ∀ (s : State) (st : Word) (rest : List Word) (q : StsAnswer) (qs : List StsAnswer) (f : List Byte)
    (fs : List (List Byte)) (m : Msg), s.mem.wf = true →
    ((s.phase = .awaitPoll ∧ m = .poll) ∨ (s.phase = .awaitResponse ∧ m = .resp) ∨
      (s.phase = .awaitFinal ∧ m = .final ∧ s.cfg.variant ≠ .singleSided)) →
    s.env.answers.status = st :: rest → st.getLsbD 1 = true →
    s.env.answers.sts = q :: qs → q.ok = true → 0 ≤ q.quality.toInt →
    s.env.answers.frame = f :: fs → f.length ≤ 1023 →
    (f.length ≠ frameLen m ∨ ∃ i < 10, i ≠ 2 ∧ f.getD i 0 ≠ (template s.cfg s.mat m).getD i 0) →
    let t := seqStep s
    t = { s with
      phase := .idle, ts := (clearTs s).ts, errCnt := s.errCnt.bump .badFrameHeader, vok := false
      mem := t.mem, rxLen := t.rxLen
      env := { s.env with
        answers := { s.env.answers with status := rest, sts := qs, frame := fs }
        calls := s.env.calls ++ [.waitStatus 0x0000FF0E] ++ [.clearStatus (st &&& 0x0000FF0E)] ++
          [.readStsQuality] ++ [.readFrame] } } ∧
      t.rxLen.toNat = f.length ∧ (∀ i < 24, bufByte t.mem .rx i = f.getD i 0) ∧ sameOutside .rx s.mem t.mem

/-- In AwaitResponse, with a good status, a good STS, a frame of 20 bytes whose header is the Response's, and the
radio's transmit and receive times at hand, the sequencer's step goes to Compute with VOK = 1: POLL_TX_TS and
RESP_RX_TS are the radio's times, POLL_RX_TS and RESP_TX_TS the low words decoded at 10 and 14, all four valid,
the other two as before; K_RAW is the radio's clock offset when the clock offset is enabled and 0 when it is
not; PDOA_RAW is the radio's reading when PDOA is enabled and as before when it is not; RXBUF and RXLEN hold the
frame; the radio calls are, in order, wait, clear, STS quality, frame, both times, and the enabled readings;
every other field, counters, SEQ, results and key material among them, and every byte outside RXBUF is
unchanged. -/
def Obligations.GoodResponseFillsTimestamps : Prop :=
  ∀ (s : State) (st : Word) (rest : List Word) (q : StsAnswer) (qs : List StsAnswer) (f : List Byte)
    (fs : List (List Byte)) (a b : Time40) (as bs : List Time40), s.phase = .awaitResponse → s.mem.wf = true →
    s.env.answers.status = st :: rest → st.getLsbD 1 = true →
    s.env.answers.sts = q :: qs → q.ok = true → 0 ≤ q.quality.toInt →
    s.env.answers.frame = f :: fs → f.length = 20 →
    ([0, 1, 3, 4, 5, 6, 7, 8, 9].all fun i => f.getD i 0 = (template s.cfg s.mat .resp).getD i 0) = true →
    s.env.answers.txTime = a :: as → s.env.answers.rxTime = b :: bs →
    let t := seqStep s
    t = { s with
      phase := .compute, vok := true, ts := t.ts, kRaw := t.kRaw, pdoaRaw := t.pdoaRaw, mem := t.mem, rxLen := 20
      env := { s.env with answers := t.env.answers, free := t.env.free, calls := t.env.calls } } ∧
      tsAllValid t initiatorTs = true ∧
      tsVal t .pollTx = a.setWidth 64 ∧ tsVal t .respRx = b.setWidth 64 ∧
      tsVal t .pollRx = (le32 (f.getD 10 0) (f.getD 11 0) (f.getD 12 0) (f.getD 13 0)).setWidth 64 ∧
      tsVal t .respTx = (le32 (f.getD 14 0) (f.getD 15 0) (f.getD 16 0) (f.getD 17 0)).setWidth 64 ∧
      t.ts.get .finalTx = s.ts.get .finalTx ∧ t.ts.get .finalRx = s.ts.get .finalRx ∧
      (s.cfg.clkoffEn = false → t.kRaw = 0) ∧
      (s.cfg.clkoffEn = true → ∀ k ks, s.env.answers.clockOffset = k :: ks → t.kRaw = k) ∧
      (s.cfg.pdoaEn = false → t.pdoaRaw = s.pdoaRaw) ∧
      (s.cfg.pdoaEn = true → ∀ p ps, s.env.answers.pdoa = p :: ps → t.pdoaRaw = p) ∧
      (∀ i < 24, bufByte t.mem .rx i = f.getD i 0) ∧ sameOutside .rx s.mem t.mem ∧
      t.env.calls = s.env.calls ++ [.waitStatus 0x0000FF0E, .clearStatus (st &&& 0x0000FF0E), .readStsQuality,
        .readFrame, .readTxTimestamp, .readRxTimestamp] ++
        (if s.cfg.clkoffEn then [.readClockOffset] else []) ++ (if s.cfg.pdoaEn then [.readPdoa] else [])

/-- In AwaitPoll, with a good status, a good STS, a frame of 12 bytes whose header is the Poll's, and the radio's
receive time and its answer to the delayed transmission at hand, the sequencer's step computes DLYTIME and the
transmit timestamp from the receive time and the reply delay, and builds the Response in TXBUF with its header,
SEQ, the receive time at 10, the transmit timestamp at 14 and zeros after it, whatever the radio then answers.
The radio calls are, in order, wait, clear, STS quality, frame, receive time, the 20 bytes of TXBUF, the receive
parameters of the second window (in a DS-TWR variant only), and the transmission at DLYTIME, with a response
expected exactly in a DS-TWR variant. If the radio accepts, the phase is SendResponse, both timestamps are valid
with these values and no counter changes; if it answers late, DelayedTxTooLate is counted, no timestamp is valid
and the phase is Idle. VOK is 1, RXBUF and RXLEN hold the Poll, and every other field, SEQ, results and key
material among them, and every byte of BLOB is unchanged. -/
def Obligations.GoodPollSchedulesResponse : Prop :=
  ∀ (s : State) (st : Word) (rest : List Word) (q : StsAnswer) (qs : List StsAnswer) (f : List Byte)
    (fs : List (List Byte)) (b : Time40) (bs : List Time40) (a : TxAnswer) (as : List TxAnswer),
    s.phase = .awaitPoll → s.mem.wf = true →
    s.env.answers.status = st :: rest → st.getLsbD 1 = true →
    s.env.answers.sts = q :: qs → q.ok = true → 0 ≤ q.quality.toInt →
    s.env.answers.frame = f :: fs → f.length = 12 →
    ([0, 1, 3, 4, 5, 6, 7, 8, 9].all fun i => f.getD i 0 = (template s.cfg s.mat .poll).getD i 0) = true →
    s.env.answers.rxTime = b :: bs → s.env.answers.armTx = a :: as →
    let t := seqStep s
    let x := (b.toNat + respDlyDtu s.cfg) % 2 ^ 40
    let stamp : DWord := BitVec.ofNat 64 ((x / 512 * 512 + s.cfg.txAntDly.toNat) % 2 ^ 40)
    t = { s with
      phase := t.phase, vok := true, ts := t.ts, dlyTime := t.dlyTime, mem := t.mem, txLen := 20, rxLen := 12
      errCnt := t.errCnt
      env := { s.env with
        answers :=
          { s.env.answers with status := rest, sts := qs, frame := fs, rxTime := bs, armTx := as }
        calls := t.env.calls } } ∧
      t.dlyTime.toNat = x / 256 ∧
      headerAt t.mem .tx s.cfg s.mat .resp ∧ bufByte t.mem .tx 2 = s.seq ∧ fieldAt t.mem .tx 10 (b.setWidth 64) ∧
      fieldAt t.mem .tx 14 stamp ∧ (∀ i, 18 ≤ i → i < 24 → bufByte t.mem .tx i = 0) ∧
      (∀ i < 24, bufByte t.mem .rx i = f.getD i 0) ∧ (∀ i < 36, bufByte t.mem .blob i = bufByte s.mem .blob i) ∧
      t.env.calls = s.env.calls ++ [.waitStatus 0x0000FF0E, .clearStatus (st &&& 0x0000FF0E), .readStsQuality,
        .readFrame, .readRxTimestamp, .writeTxFrame (memRead t.mem .tx 0 20) 20] ++
        (if s.cfg.variant = .singleSided then []
          else [.setRxParams s.cfg.respTxToFinalRxDly s.cfg.finalRxTimeout s.cfg.preTimeoutPac]) ++
        [.armTx (.delayed t.dlyTime) (s.cfg.variant ≠ .singleSided)] ∧
      (a = .ok → t.phase = .sendResponse ∧ tsAllValid t responderTs = true ∧ tsVal t .pollRx = b.setWidth 64 ∧
        tsVal t .respTx = stamp ∧ (∀ r, r ≠ .pollRx → r ≠ .respTx → t.ts.get r = s.ts.get r) ∧ t.errCnt = s.errCnt) ∧
      (a = .late → t.phase = .idle ∧ (∀ r, tsValid t r = false) ∧
        t.errCnt = s.errCnt.bump .delayedTxTooLate)

/-- In AwaitFinal of a DS-TWR variant, with POLL_RX_TS and RESP_TX_TS valid, a good status, a good STS, a frame of
24 bytes whose header is the Final's and the radio's receive time at hand, the sequencer's step goes to Compute
with VOK = 1: FINAL_RX_TS is the radio's time, the initiator's three are the low words at 10, 14 and 18, the two
it held are kept, all six are valid; PDOA_RAW is the radio's reading when PDOA is enabled and as before when it
is not, and K_RAW is as before; RXBUF and RXLEN hold the frame; the radio calls are, in order, wait, clear, STS
quality, frame, receive time, and the enabled reading; every other field, counters, SEQ and results among them,
and every byte outside RXBUF is unchanged. -/
def Obligations.GoodFinalFillsTimestamps : Prop :=
  ∀ (s : State) (st : Word) (rest : List Word) (q : StsAnswer) (qs : List StsAnswer) (f : List Byte)
    (fs : List (List Byte)) (b : Time40) (bs : List Time40), s.phase = .awaitFinal → s.mem.wf = true →
    s.cfg.variant ≠ .singleSided → tsAllValid s responderTs = true →
    s.env.answers.status = st :: rest → st.getLsbD 1 = true →
    s.env.answers.sts = q :: qs → q.ok = true → 0 ≤ q.quality.toInt →
    s.env.answers.frame = f :: fs → f.length = 24 →
    ([0, 1, 3, 4, 5, 6, 7, 8, 9].all fun i => f.getD i 0 = (template s.cfg s.mat .final).getD i 0) = true →
    s.env.answers.rxTime = b :: bs →
    let t := seqStep s
    t = { s with
      phase := .compute, vok := true, ts := t.ts, pdoaRaw := t.pdoaRaw, mem := t.mem, rxLen := 24
      env := { s.env with answers := t.env.answers, free := t.env.free, calls := t.env.calls } } ∧
      tsAllValid t allTs = true ∧
      tsVal t .finalRx = b.setWidth 64 ∧ tsVal t .pollRx = tsVal s .pollRx ∧ tsVal t .respTx = tsVal s .respTx ∧
      tsVal t .pollTx = (le32 (f.getD 10 0) (f.getD 11 0) (f.getD 12 0) (f.getD 13 0)).setWidth 64 ∧
      tsVal t .respRx = (le32 (f.getD 14 0) (f.getD 15 0) (f.getD 16 0) (f.getD 17 0)).setWidth 64 ∧
      tsVal t .finalTx = (le32 (f.getD 18 0) (f.getD 19 0) (f.getD 20 0) (f.getD 21 0)).setWidth 64 ∧
      (s.cfg.pdoaEn = false → t.pdoaRaw = s.pdoaRaw) ∧
      (s.cfg.pdoaEn = true → ∀ p ps, s.env.answers.pdoa = p :: ps → t.pdoaRaw = p) ∧
      (∀ i < 24, bufByte t.mem .rx i = f.getD i 0) ∧ sameOutside .rx s.mem t.mem ∧
      t.env.calls = s.env.calls ++ [.waitStatus 0x0000FF0E, .clearStatus (st &&& 0x0000FF0E), .readStsQuality,
        .readFrame, .readRxTimestamp] ++ (if s.cfg.pdoaEn then [.readPdoa] else [])

/-- In SendPoll, SendResponse and SendFinal: when the radio's status shows TX_DONE the sequencer's step clears that
bit, adds 1 to SEQ modulo 256 and goes to AwaitResponse from SendPoll, to AwaitFinal from SendResponse in a DS-
TWR variant with the timestamps kept, and to Idle otherwise with the timestamps discarded; every other field is
unchanged. With no status at hand the state stays as it is, the radio call trace included: that a blocked wait
is one step that changes nothing and is traced only when it returns is the model's choice (assumption log 3,
DEDUCED). -/
def Obligations.TxDoneAdvancesSeq : Prop :=
  ∀ s : State, (s.phase = .sendPoll ∨ s.phase = .sendResponse ∨ s.phase = .sendFinal) →
    (∀ st rest, s.env.answers.status = st :: rest → st.getLsbD 0 = true →
      seqStep s = { s with
        seq := s.seq + 1
        phase := (if s.phase = .sendPoll then .awaitResponse
          else if s.phase = .sendResponse ∧ s.cfg.variant ≠ .singleSided then .awaitFinal else .idle)
        ts := (if s.phase = .sendPoll ∨ (s.phase = .sendResponse ∧ s.cfg.variant ≠ .singleSided) then s.ts
          else (clearTs s).ts)
        env := { s.env with
          answers := { s.env.answers with status := rest }
          calls := s.env.calls ++ [.waitStatus 1] ++ [.clearStatus 1] } }) ∧
    (s.env.answers.status = [] → seqStep s = s)

/-- In Compute on an Initiator with its four timestamps valid, in every variant, the sequencer's step leaves the
results of the SS-TWR formula valid, DUR_MS and PDOA_DEG as their commands compute them where the build enables
them, and appends exactly one 9-byte message with the tag 0x62 and DIST_M to the sink; SEQ, CMD_FAULT, VOK, key
material, RXBUF, BLOB and every field not named here are unchanged. In SingleSided it then discards the
timestamps and goes to Idle; DLYTIME, buffers, counters and the radio call trace are unchanged. In a DS-TWR
variant DLYTIME and the Final's transmit timestamp are computed from RESP_RX_TS and the reply delay, TXBUF holds
the Final with its header, SEQ, POLL_TX_TS at 10, RESP_RX_TS at 14, the transmit timestamp at 18 and zeros after
it, and the radio is given those 24 bytes and asked to send at DLYTIME with no response expected. If the radio
accepts, the phase is SendFinal, FINAL_TX_TS is valid and no counter changes; if it answers late, after the
result was delivered, DelayedTxTooLate is counted, no timestamp is valid and the phase is Idle. -/
def Obligations.InitiatorComputeDelivers : Prop :=
  ∀ s : State, s.phase = .compute → s.cfg.role = .initiator → tsAllValid s initiatorTs = true →
    let t := seqStep s
    let x := ((tsVal s .respRx).toNat % 2 ^ 40 + finalDlyDtu s.cfg) % 2 ^ 40
    let stamp : DWord := BitVec.ofNat 64 ((x / 512 * 512 + s.cfg.txAntDly.toNat) % 2 ^ 40)
    (t = { s with
      phase := t.phase, ts := t.ts, tofDtu := t.tofDtu, tofS := t.tofS, distM := t.distM, resultValid := true
      wrapFlag := t.wrapFlag, durMs := t.durMs, durValid := s.cfg.durEn || s.durValid, pdoaDeg := t.pdoaDeg
      pdoaValid := s.cfg.pdoaEn || s.pdoaValid, dlyTime := t.dlyTime, mem := t.mem, txLen := t.txLen
      errCnt := t.errCnt
      env := { s.env with
        answers := t.env.answers, free := t.env.free, calls := t.env.calls
        sink := s.env.sink ++ (0x62#8 :: (List.range 8).map fun j => t.distM.extractLsb' (8 * j) 8) } } ∧
      isResult t.tofDtu (tofSsDtu s) ∧ isResult t.tofS (fmul t.tofDtu dtuS) ∧
      isResult t.distM (fmul t.tofS s.cfg.cMps) ∧
      (t.wrapFlag = true ↔ 2 ^ 32 ≤ ((tsVal s .respRx).toNat + 2 ^ 64 - (tsVal s .pollTx).toNat) % 2 ^ 40) ∧
      t.durMs = (if s.cfg.durEn then durationMs (d40 s .pollTx .respRx) else s.durMs) ∧
      t.pdoaDeg = (if s.cfg.pdoaEn then pdoaDegrees s.pdoaRaw else s.pdoaDeg)) ∧
    (s.cfg.variant = .singleSided →
      t.phase = .idle ∧ (∀ r, tsValid t r = false) ∧ t.dlyTime = s.dlyTime ∧ t.mem = s.mem ∧ t.txLen = s.txLen ∧
      t.errCnt = s.errCnt ∧ t.env.calls = s.env.calls ∧ t.env.answers = s.env.answers) ∧
    (s.cfg.variant ≠ .singleSided → s.mem.wf = true →
      t.dlyTime.toNat = x / 256 ∧ t.txLen = 24 ∧
      headerAt t.mem .tx s.cfg s.mat .final ∧ bufByte t.mem .tx 2 = s.seq ∧
      fieldAt t.mem .tx 10 (tsVal s .pollTx) ∧ fieldAt t.mem .tx 14 (tsVal s .respRx) ∧ fieldAt t.mem .tx 18 stamp ∧
      (∀ i, 22 ≤ i → i < 24 → bufByte t.mem .tx i = 0) ∧ sameOutside .tx s.mem t.mem ∧
      t.env.calls = s.env.calls ++
        [.writeTxFrame (memRead t.mem .tx 0 24) 24, .armTx (.delayed t.dlyTime) false] ∧
      (∀ a as, s.env.answers.armTx = a :: as →
        t.env.answers = { s.env.answers with armTx := as } ∧
        (a = .ok → t.phase = .sendFinal ∧ tsValid t .finalTx = true ∧ tsVal t .finalTx = stamp ∧
          (∀ r, r ≠ .finalTx → t.ts.get r = s.ts.get r) ∧ t.errCnt = s.errCnt) ∧
        (a = .late → t.phase = .idle ∧ (∀ r, tsValid t r = false) ∧
          t.errCnt = s.errCnt.bump .delayedTxTooLate)))

/-- In Compute on a Responder with all six timestamps valid, the sequencer's step leaves the results of the DS-TWR
formula valid; WRAP_FLAG says whether one of the responder's two local 40-bit intervals is 2^32 or more; DUR_MS
is the interval from POLL_RX_TS to FINAL_RX_TS in milliseconds and DUR_VALID is 1 where DUR_EN is set, PDOA_DEG
is converted from PDOA_RAW and PDOA_VALID is 1 where PDOA_EN is set, and they are as before where not. It
discards the timestamps and goes to Idle. Every other field is unchanged: the sink, the radio call trace, SEQ,
counters, CMD_FAULT, VOK, key material, mailbox, K_RAW, PDOA_RAW, DLYTIME, memory, TXLEN and RXLEN among them
(the counter of the free values may advance). -/
def Obligations.ResponderComputeReportsOnly : Prop :=
  ∀ s : State, s.phase = .compute → s.cfg.role = .responder → tsAllValid s allTs = true →
    let t := seqStep s
    t = { s with
      phase := .idle, ts := (clearTs s).ts, tofDtu := t.tofDtu, tofS := t.tofS, distM := t.distM, resultValid := true
      wrapFlag := t.wrapFlag
      durMs := (if s.cfg.durEn then durationMs (d40 s .pollRx .finalRx) else s.durMs)
      durValid := s.cfg.durEn || s.durValid
      pdoaDeg := (if s.cfg.pdoaEn then pdoaDegrees s.pdoaRaw else s.pdoaDeg)
      pdoaValid := s.cfg.pdoaEn || s.pdoaValid
      env := { s.env with free := t.env.free } } ∧
      isResult t.tofDtu (tofDsDtu s) ∧ isResult t.tofS (fmul t.tofDtu dtuS) ∧
      isResult t.distM (fmul t.tofS s.cfg.cMps) ∧
      (t.wrapFlag = true ↔
        2 ^ 32 ≤ ((tsVal s .respTx).toNat + 2 ^ 64 - (tsVal s .pollRx).toNat) % 2 ^ 40 ∨
        2 ^ 32 ≤ ((tsVal s .finalRx).toNat + 2 ^ 64 - (tsVal s .respTx).toNat) % 2 ^ 40) ∧
      ∀ r, tsValid t r = false

/-- Whatever the state and the next input, a step that is not the reset event leaves the phase as it is or takes one
of the edges of the transition table, with the role and variant the edge needs; so Fatal is entered from Init
only. -/
def Obligations.TransitionsAreTheTable : Prop :=
  ∀ s t : State, resetNext s = false → step s = .next t →
    t.phase = s.phase ∨ phaseEdge s.cfg s.phase t.phase

/-- For every state that satisfies the invariant, whatever the build, the next input and the radio's answers, the
next state satisfies it: the byte store stays canonical and inside the buffers, TXLEN stays a frame length,
FATAL_CODE is set exactly in Fatal, each phase belongs to its role and variant and holds the valid timestamps
the rest of the cycle reads, and a cycle in flight has its key armed, no stale result and a validated frame. -/
def Obligations.StepKeepsInvariant : Prop :=
  ∀ s t : State, goodState s = true → step s = .next t → goodState t = true

/-- The state after reset satisfies the invariant, for the build of State.reset and for every other build and
environment. -/
def Obligations.InvariantAtReset : Prop :=
  goodState State.reset = true ∧ ∀ (c : Config) (e : Env), goodState (State.resetWith c e) = true

/-- In every state that satisfies the invariant and is in Compute, one sequencer step leaves Compute for Idle or
SendFinal with a valid result and CMD_FAULT unchanged: the sequencer's own uses of the commands do not fault
there. -/
def Obligations.ComputeNeverStalls : Prop :=
  ∀ s : State, goodState s = true → s.phase = .compute →
    ((seqStep s).phase = .idle ∨ (seqStep s).phase = .sendFinal) ∧ (seqStep s).resultValid = true ∧
      (seqStep s).cmdFault = s.cmdFault

/-- The reset event, in every phase, and the state after reset: PHASE is Init, every flag and counter is 0 but
FIRST_CYCLE, which is 1, no timestamp is valid, no rekey is pending, the key material is the build's reset
material, and every buffer byte reads 0. The first two clauses name State.resetWith: the zero contents it gives
to invalid timestamps and to the empty mailbox, the opaque build and the empty record of the outside world of
State.reset, and that the reset event keeps the build, the pending inputs and answers, the radio call trace and
the sink stream, are the model's choices (assumption log 4, 6, 7, 9 and 11); the last clause states the spec's
values. -/
def Obligations.ResetGivesStatedValues : Prop :=
  (State.reset = State.resetWith Config.build Env.quiet) ∧
  (∀ (s : State) (rest : List Input), s.env.inputs = .reset :: rest →
    step s = .next (State.resetWith s.cfg { s.env with inputs := rest })) ∧
  (∀ (c : Config) (e : Env), let r := State.resetWith c e
    r.phase = .init ∧ r.auto = false ∧ r.seq = 0 ∧ (∀ k, r.errCnt.get k = 0) ∧ r.rxErrMask = 0 ∧ r.fatalCode = 0 ∧
      r.dlyTime = 0 ∧ (∀ q, tsValid r q = false) ∧ r.kRaw = 0 ∧ r.pdoaRaw = 0 ∧ noResults r = true ∧ r.vok = false ∧
      r.tofDtu = 0 ∧ r.tofS = 0 ∧ r.distM = 0 ∧ r.durMs = 0 ∧ r.pdoaDeg = 0 ∧ r.cmdFault = .noFault ∧
      r.firstCycle = true ∧ r.pend.valid = false ∧
      r.mat = ⟨c.keyReset, c.ivReset, c.srcAddrReset, c.dstAddrReset⟩ ∧ r.txLen = 0 ∧ r.rxLen = 0 ∧
      ∀ a, r.mem.read a = 0)

/-- Whatever the next input, reset among them, a step leaves every build parameter, ROLE and VARIANT among them, as
it is; and a step of the sequencer leaves CMD_FAULT and CTRL.AUTO as they are. That the build stands in State,
and that the reset event keeps it there, are the model's choices (assumption log 4 and 11). -/
def Obligations.BuildNeverChanges : Prop :=
  (∀ s t : State, step s = .next t → t.cfg = s.cfg) ∧
  (∀ s : State, (seqStep s).cmdFault = s.cmdFault ∧ (seqStep s).auto = s.auto)

/-- Whatever the next input, a step that is not the reset event leaves all seven error counters as they are or
advances exactly one of them by 1. -/
def Obligations.OneErrorPerStep : Prop :=
  ∀ s t : State, resetNext s = false → step s = .next t →
    t.errCnt = s.errCnt ∨ ∃ k, t.errCnt = s.errCnt.bump k

/-- Two states that differ only in the error counters take, on every next input but a host read, the same step: the
same outcome, and next states that differ at most in the error counters. -/
def Obligations.CountersGateNothing : Prop :=
  ∀ (s : State) (c : ErrCounters), (∀ a, s.env.inputs.head? ≠ some (.hostRead a)) →
    ∃ c', step { s with errCnt := c } =
      match step s with
      | .next t => .next { t with errCnt := c' }
      | .fault f => .fault f
      | .refused r => .refused r

/-- The word a host read of 0x004 gives holds PHASE in bits 3:0, BUSY, VOK, RESULT_VALID, PDOA_VALID, DUR_VALID,
PEND_VALID, FIRST_CYCLE, FATAL and WRAP_FLAG in bits 4 to 12, CMD_FAULT in bits 19:16, and zeros elsewhere; a
host write to 0x004 changes nothing; after reset it reads 0x00000418. -/
def Obligations.StatusWordFields : Prop :=
  (∀ s : State, let w := regRead s 0x004
    w.extractLsb' 0 4 = s.phase.code ∧
    (w.getLsbD 4 = true ↔ s.phase ≠ .idle ∧ s.phase ≠ .fatal) ∧
    w.getLsbD 5 = s.vok ∧ w.getLsbD 6 = s.resultValid ∧ w.getLsbD 7 = s.pdoaValid ∧ w.getLsbD 8 = s.durValid ∧
    w.getLsbD 9 = s.pend.valid ∧ w.getLsbD 10 = s.firstCycle ∧
    (w.getLsbD 11 = true ↔ s.phase = .fatal) ∧ w.getLsbD 12 = s.wrapFlag ∧
    w.extractLsb' 13 3 = 0 ∧ w.extractLsb' 16 4 = s.cmdFault.code ∧ w.extractLsb' 20 12 = 0) ∧
  (∀ (s : State) (v : Word) (rest : List Input), s.env.inputs = .hostWrite 0x004 v :: rest →
    step s = .next (withInputs s rest)) ∧
  (∀ (c : Config) (e : Env), regRead (State.resetWith c e) 0x004 = 0x00000418)

/-- In every phase but Idle, a host write to an aligned address of the port other than CMD, CTRL and the words of
BLOB changes nothing; in Idle, a write to SEQ, TSV, a result, key material or error counter address, or to an
address the map does not list, changes nothing. -/
def Obligations.WritesOutsideIdleAreIgnored : Prop :=
  ∀ (s : State) (a : Nat) (v : Word) (rest : List Input), s.env.inputs = .hostWrite a v :: rest →
    a % 4 = 0 → a ≤ 0x1B7 →
    ((s.phase ≠ .idle ∧ a ≠ 0x000 ∧ a ≠ 0x008 ∧ Buf.blob.holds a = false) ∨
      (s.phase = .idle ∧ (a = 0x004 ∨ a = 0x00C ∨ a = 0x010 ∨ a = 0x014 ∨ (0x020 ≤ a ∧ a < 0x030) ∨
        (0x034 ≤ a ∧ a < 0x040) ∨ (0x070 ≤ a ∧ a < 0x140) ∨ (0x164 ≤ a ∧ a < 0x180) ∨ (0x198 ≤ a ∧ a < 0x1A0)))) →
    step s = .next (withInputs s rest)

/-- In every phase but Fatal a host write to CTRL sets AUTO to bit 0 of the word. In Idle a host write to K_RAW sets
all 32 bits, one to PDOA_RAW sets it to bits 15:0, one to RXLEN to bits 9:0; and a host write to the low (high)
half of timestamp register r sets that half, leaves the other half if the register was valid and makes it 0 if
not, and makes the register valid, the other registers unchanged. Every other field is unchanged in each case.
That RXLEN takes the low ten bits of a word with higher bits set is the model's reading (assumption log 17,
DEDUCED). -/
def Obligations.HostWritesRegister : Prop :=
  (∀ (s : State) (v : Word) (rest : List Input), s.phase ≠ .fatal → s.env.inputs = .hostWrite 0x008 v :: rest →
    step s = .next { s with auto := v.getLsbD 0, env := { s.env with inputs := rest } }) ∧
  (∀ (s : State) (v : Word) (rest : List Input), s.phase = .idle →
    (s.env.inputs = .hostWrite 0x018 v :: rest →
      step s = .next { s with kRaw := v, env := { s.env with inputs := rest } }) ∧
    (s.env.inputs = .hostWrite 0x01C v :: rest →
      step s = .next { s with pdoaRaw := v.extractLsb' 0 16, env := { s.env with inputs := rest } }) ∧
    (s.env.inputs = .hostWrite 0x030 v :: rest →
      step s = .next { s with rxLen := v.extractLsb' 0 10, env := { s.env with inputs := rest } })) ∧
  ∀ (s : State) (r : TsReg) (v : Word) (rest : List Input) (hi : Bool), s.phase = .idle →
    s.env.inputs = .hostWrite (0x040 + 8 * r.index + (if hi then 4 else 0)) v :: rest →
    ∃ t, step s = .next t ∧ t = { s with ts := t.ts, env := { s.env with inputs := rest } } ∧
      tsValid t r = true ∧ (∀ q, q ≠ r → t.ts.get q = s.ts.get q) ∧
      (let old := if tsValid s r then tsVal s r else 0
       (tsVal t r).extractLsb' 0 32 = (if hi then old.extractLsb' 0 32 else v) ∧
       (tsVal t r).extractLsb' 32 32 = (if hi then v else old.extractLsb' 32 32))

/-- In Idle for TXBUF and RXBUF, and in every phase but Fatal for BLOB, a host write to word w of a buffer sets
bytes 4w to 4w+3 from bits 7:0 upward, changes no other byte and no other field, and a host read of that address
then gives the word written. -/
def Obligations.HostWritesBufferWord : Prop :=
  ∀ (s : State) (b : Buf) (w : Nat) (v : Word) (rest : List Input), s.mem.wf = true → 4 * w + 4 ≤ b.size →
    (b = .blob → s.phase ≠ .fatal) → (b ≠ .blob → s.phase = .idle) →
    s.env.inputs = .hostWrite (b.base + 4 * w) v :: rest →
    ∃ t, step s = .next t ∧ t = { s with mem := t.mem, env := { s.env with inputs := rest } } ∧
      (∀ j < 4, bufByte t.mem b (4 * w + j) = v.extractLsb' (8 * j) 8) ∧
      (∀ a, (a < b.base + 4 * w ∨ b.base + 4 * w + 4 ≤ a) → t.mem.read a = s.mem.read a) ∧
      regRead t (b.base + 4 * w) = v

/-- A host read of an aligned address of the port appends the value to what the host has read and changes nothing
else; that list is the model's own record (assumption log 14). A host read or a host write at an address that is
no multiple of 4 is refused; an aligned one above 0x1B7 faults, which is the model's choice (assumption log 12).
An address the map does not list reads 0, and so does CMD. CTRL reads AUTO in bit 0; CFG reads role, variant and
the three enables in bits 0 to 5; SEQ, RXERR_MASK, FATAL_CODE, TXLEN, RXLEN and PDOA_RAW read zero-extended; TSV
reads the six valid bits; K_RAW, DLYTIME, PDOA_DEG, the key and IV words and the error counters read whole; a
timestamp register and the four binary64 registers read their low half at the lower address and their high half
above it, a timestamp register 0 while it is invalid; ADDR reads SRC_ADDR below DST_ADDR; word w of BLOB, TXBUF
or RXBUF reads bytes 4w to 4w+3 of the buffer, the first lowest. -/
def Obligations.PortStopsAndReads : Prop :=
  (∀ (s : State) (a : Nat) (rest : List Input), s.env.inputs = .hostRead a :: rest →
    (a % 4 = 0 → a ≤ 0x1B7 → step s = .next { s with env :=
      { s.env with inputs := rest, readBack := s.env.readBack ++ [regRead (withInputs s rest) a] } }) ∧
    (a % 4 ≠ 0 → step s = .refused (.notATransaction a)) ∧
    (a % 4 = 0 → 0x1B7 < a → step s = .fault (.outsidePort a))) ∧
  (∀ (s : State) (a : Nat) (v : Word) (rest : List Input), s.env.inputs = .hostWrite a v :: rest →
    (a % 4 ≠ 0 → step s = .refused (.notATransaction a)) ∧
    (a % 4 = 0 → 0x1B7 < a → step s = .fault (.outsidePort a))) ∧
  (∀ (s : State) (a : Nat), a = 0x000 ∨ (0x034 ≤ a ∧ a < 0x040) ∨ (0x070 ≤ a ∧ a < 0x080) ∨ (0x0A4 ≤ a ∧ a < 0x0C0) ∨
    (0x0E4 ≤ a ∧ a < 0x100) ∨ (0x11C ≤ a ∧ a < 0x140) ∨ (0x164 ≤ a ∧ a < 0x180) ∨ (0x198 ≤ a ∧ a < 0x1A0) →
    regRead s a = 0) ∧
  (∀ s : State,
    ((regRead s 0x008).getLsbD 0 = s.auto ∧ (regRead s 0x008).extractLsb' 1 31 = 0) ∧
    (let w := regRead s 0x00C
     (w.getLsbD 0 = true ↔ s.cfg.role = .responder) ∧
     w.extractLsb' 1 2 = (match s.cfg.variant with | .singleSided => 0 | .doubleSided => 1 | .doubleSidedSDC => 2) ∧
     w.getLsbD 3 = s.cfg.clkoffEn ∧ w.getLsbD 4 = s.cfg.pdoaEn ∧ w.getLsbD 5 = s.cfg.durEn ∧
     w.extractLsb' 6 26 = 0) ∧
    (regRead s 0x010).toNat = s.seq.toNat ∧
    ((∀ r : TsReg, (regRead s 0x014).getLsbD r.index = tsValid s r) ∧ (regRead s 0x014).extractLsb' 6 26 = 0) ∧
    regRead s 0x018 = s.kRaw ∧ (regRead s 0x01C).toNat = s.pdoaRaw.toNat ∧ regRead s 0x020 = s.dlyTime ∧
    (regRead s 0x024).toNat = s.rxErrMask.toNat ∧ (regRead s 0x028).toNat = s.fatalCode.toNat ∧
    (regRead s 0x02C).toNat = s.txLen.toNat ∧ (regRead s 0x030).toNat = s.rxLen.toNat ∧
    (∀ r : TsReg, let v := if tsValid s r then tsVal s r else 0
      regRead s (0x040 + 8 * r.index) = v.extractLsb' 0 32 ∧ regRead s (0x044 + 8 * r.index) = v.extractLsb' 32 32) ∧
    (regRead s 0x084 ++ regRead s 0x080 = s.tofDtu ∧ regRead s 0x08C ++ regRead s 0x088 = s.tofS ∧
     regRead s 0x094 ++ regRead s 0x090 = s.distM ∧ regRead s 0x09C ++ regRead s 0x098 = s.durMs) ∧
    regRead s 0x0A0 = s.pdoaDeg ∧
    (regRead s 0x0C0 = s.mat.key.w0 ∧ regRead s 0x0C4 = s.mat.key.w1 ∧ regRead s 0x0C8 = s.mat.key.w2 ∧
     regRead s 0x0CC = s.mat.key.w3) ∧
    (regRead s 0x0D0 = s.mat.iv.w0 ∧ regRead s 0x0D4 = s.mat.iv.w1 ∧ regRead s 0x0D8 = s.mat.iv.w2 ∧
     regRead s 0x0DC = s.mat.iv.w3) ∧
    ((regRead s 0x0E0).extractLsb' 0 16 = s.mat.srcAddr ∧ (regRead s 0x0E0).extractLsb' 16 16 = s.mat.dstAddr) ∧
    (∀ k : ErrKind, regRead s (0x100 + 4 * k.code) = s.errCnt.get k) ∧
    ∀ (b : Buf) (w : Nat), 4 * w + 4 ≤ b.size →
      regRead s (b.base + 4 * w) = le32 (bufByte s.mem b (4 * w)) (bufByte s.mem b (4 * w + 1))
        (bufByte s.mem b (4 * w + 2)) (bufByte s.mem b (4 * w + 3)))

/-- Whatever the next input, a step leaves the sink stream as it is or appends exactly one message of nine bytes:
the tag 0x62 and the eight bytes of the DIST_M it leaves. -/
def Obligations.SinkGetsWholeMessages : Prop :=
  ∀ s t : State, step s = .next t →
    t.env.sink = s.env.sink ∨
    t.env.sink = s.env.sink ++ (0x62#8 :: (List.range 8).map fun j => t.distM.extractLsb' (8 * j) 8)

/-- A step that changes TOF_DTU, TOF_S or DIST_M is the reset event, or starts in Compute, or is a command word in
Idle that decodes to TOFSS or TOFDS: no receive, transmit or failed step computes a distance. -/
def Obligations.ResultsComeFromComputeOnly : Prop :=
  ∀ s t : State, step s = .next t → ¬ sameResults s t →
    resetNext s = true ∨ s.phase = .compute ∨
    (s.phase = .idle ∧ (commandNext s .tofss ∨ commandNext s .tofds))
end

