-- ==== Sys2Proof/Laws/Decode.lean ====
section
/-! SUPPORT. The fields of a command word that `mkWord` makes (spec/30_encoding.md R90, R99). -/

namespace Sys2Proof

theorem fieldOp_mkWord (op a b : Byte) : fieldOp (mkWord op a b) = op := by
  ext i hi
  simp [fieldOp, mkWord, hi, show i < 32 by omega, show i < 16 by omega]

theorem fieldA_mkWord (op a b : Byte) : fieldA (mkWord op a b) = a := by
  ext i hi
  simp [fieldA, mkWord, hi, show 8 + i < 32 by omega, show 8 + i < 16 by omega]

theorem fieldB_mkWord (op a b : Byte) : fieldB (mkWord op a b) = b := by
  ext i hi
  simp [fieldB, mkWord, hi, show 16 + i < 32 by omega, BitVec.getLsbD_of_ge op (16 + i) (by omega),
    BitVec.getLsbD_of_ge a (16 + i - 8) (by omega)]

theorem fieldZ_mkWord (op a b : Byte) : fieldZ (mkWord op a b) = 0 := by
  ext i hi
  simp [fieldZ, mkWord, show 24 + i < 32 by omega, BitVec.getLsbD_of_ge op (24 + i) (by omega),
    BitVec.getLsbD_of_ge a (24 + i - 8) (by omega), BitVec.getLsbD_of_ge b (24 + i - 16) (by omega)]

end Sys2Proof
end

