-- ==== Sys2Proof/Laws/Memory.lean ====
section
/-! SUPPORT. The byte store: every operation keeps the canonical form, a read after a write, and the buffers. -/

namespace Sys2Proof.Machine

/-- Every entry's address is above `a`. -/
def Memory.above (a : Nat) (m : Memory) : Prop := ∀ c ∈ m, a < c.1

theorem Memory.wf_cons (c : Host.Cell) (m : Memory) :
    Memory.wf (c :: m) = true ↔ c.2 ≠ unlistedByte ∧ Memory.above c.1 m ∧ Memory.wf m = true := by
  induction m generalizing c with
  | nil => simp [Memory.wf, Memory.above]
  | cons d rest ih =>
    have hd := ih d
    simp only [Memory.wf, Bool.and_eq_true, decide_eq_true_eq] at hd ⊢
    constructor
    · rintro ⟨⟨h1, h2⟩, h3⟩
      refine ⟨h1, ?_, h3⟩
      intro x hx
      rcases List.mem_cons.mp hx with rfl | hx
      · exact h2
      · exact lt_trans h2 ((hd.mp h3).2.1 x hx)
    · rintro ⟨h1, h2, h3⟩
      exact ⟨⟨h1, h2 d (List.mem_cons_self ..)⟩, h3⟩

theorem Memory.read_of_above {a : Nat} {m : Memory} (h : Memory.above a m) : m.read a = unlistedByte := by
  induction m with
  | nil => rfl
  | cons c rest ih =>
    have hc : a < c.1 := h c (List.mem_cons_self ..)
    simp only [Memory.read, if_neg (by omega : ¬ c.1 = a)]
    exact ih fun x hx => h x (List.mem_cons_of_mem _ hx)

theorem Memory.write_above {x a : Nat} {m : Memory} {b : Byte} (h : Memory.above x m) (ha : x < a) :
    Memory.above x (m.write a b) := by
  induction m with
  | nil =>
    simp only [Memory.write]
    split
    · exact h
    · intro c hc; simp only [List.mem_singleton] at hc; subst hc; exact ha
  | cons c rest ih =>
    have hc := h c (List.mem_cons_self ..)
    have hr : Memory.above x rest := fun y hy => h y (List.mem_cons_of_mem _ hy)
    simp only [Memory.write]
    split
    · split
      · exact h
      · intro y hy
        rcases List.mem_cons.mp hy with rfl | hy
        · exact ha
        · exact h y hy
    · split
      · split
        · exact hr
        · intro y hy
          rcases List.mem_cons.mp hy with rfl | hy
          · exact ha
          · exact hr y hy
      · intro y hy
        rcases List.mem_cons.mp hy with rfl | hy
        · exact hc
        · exact ih hr y hy

/-- A write keeps the canonical form. -/
theorem Memory.write_wf {m : Memory} (h : m.wf = true) (a : Nat) (b : Byte) : (m.write a b).wf = true := by
  induction m with
  | nil =>
    simp only [Memory.write]
    split
    · rfl
    · rename_i hb; exact decide_eq_true hb
  | cons c rest ih =>
    obtain ⟨h1, h2, h3⟩ := (Memory.wf_cons c rest).mp h
    simp only [Memory.write]
    split
    · rename_i hlt
      split
      · exact h
      · rename_i hb
        refine (Memory.wf_cons _ _).mpr ⟨hb, ?_, h⟩
        intro y hy
        rcases List.mem_cons.mp hy with rfl | hy
        · exact hlt
        · exact lt_trans hlt (h2 y hy)
    · split
      · rename_i heq
        split
        · exact h3
        · rename_i hb
          subst heq
          exact (Memory.wf_cons _ _).mpr ⟨hb, h2, h3⟩
      · exact (Memory.wf_cons _ _).mpr ⟨h1, Memory.write_above h2 (by omega), ih h3⟩

/-- A read after a write, in canonical form: the byte written at its address, every other byte as before. -/
theorem Memory.read_write {m : Memory} (h : m.wf = true) (a : Nat) (b : Byte) (x : Nat) :
    (m.write a b).read x = if x = a then b else m.read x := by
  induction m with
  | nil =>
    by_cases hx : a = x
    · by_cases hb : b = unlistedByte <;> simp [Memory.write, Memory.read, hb, hx]
    · by_cases hb : b = unlistedByte <;> simp [Memory.write, Memory.read, hb, hx, Ne.symm hx]
  | cons c rest ih =>
    obtain ⟨h1, h2, h3⟩ := (Memory.wf_cons c rest).mp h
    simp only [Memory.write]
    split
    · rename_i hlt
      have hz : (Memory.read (c :: rest) a) = unlistedByte := by
        refine Memory.read_of_above ?_
        intro y hy
        rcases List.mem_cons.mp hy with rfl | hy
        · exact hlt
        · exact lt_trans hlt (h2 y hy)
      split
      · rename_i hb
        by_cases hx : x = a
        · subst hx; simp [hz, hb]
        · simp [hx]
      · by_cases hx : x = a
        · simp [Memory.read, hx]
        · simp [Memory.read, hx, Ne.symm hx]
    · split
      · rename_i heq
        subst heq
        split
        · rename_i hb
          by_cases hx : x = c.1
          · subst hx; simp [Memory.read_of_above h2, hb]
          · simp [Memory.read, hx, eq_comm]
        · by_cases hx : x = c.1
          · simp [Memory.read, hx]
          · simp [Memory.read, hx, eq_comm]
      · rename_i hne
        by_cases hx : c.1 = x
        · have : ¬ x = a := by omega
          simp [Memory.read, hx, this]
        · simp [Memory.read, hx, ih h3]

/-- A run of bytes written keeps the canonical form. -/
theorem Memory.writeBytes_wf {m : Memory} (h : m.wf = true) (a : Nat) (bs : List Byte) :
    (m.writeBytes a bs).wf = true := by
  induction bs generalizing m a with
  | nil => exact h
  | cons b bs ih => exact ih (Memory.write_wf h a b) (a + 1)

/-- A read after a run of bytes was written. -/
theorem Memory.read_writeBytes {m : Memory} (h : m.wf = true) (a : Nat) (bs : List Byte) (x : Nat) :
    (m.writeBytes a bs).read x = if a ≤ x ∧ x < a + bs.length then bs.getD (x - a) 0 else m.read x := by
  induction bs generalizing m a with
  | nil =>
    have : ¬ (a ≤ x ∧ x < a + ([] : List Byte).length) := by simp
    rw [if_neg this]; rfl
  | cons b bs ih =>
    rw [Memory.writeBytes, ih (Memory.write_wf h a b) (a + 1), Memory.read_write h]
    by_cases hx : x = a
    · subst hx; simp
    · by_cases hin : a + 1 ≤ x ∧ x < a + 1 + bs.length
      · have h2 : a ≤ x ∧ x < a + (b :: bs).length := by simp only [List.length_cons]; omega
        rw [if_pos hin, if_pos h2, show x - a = (x - (a + 1)) + 1 by omega, List.getD_cons_succ]
      · have h2 : ¬ (a ≤ x ∧ x < a + (b :: bs).length) := by simp only [List.length_cons]; omega
        rw [if_neg hin, if_neg h2, if_neg hx]

/-- `MemWrite` keeps the canonical form (R63). -/
theorem memWrite_wf {m : Memory} (h : m.wf = true) (b : Buf) (off : Nat) (bs : List Byte) :
    (memWrite m b off bs).wf = true := Memory.writeBytes_wf h _ bs

/-- `MemWrite` sets the bytes it names "and changes no other byte" (R63). -/
theorem read_memWrite {m : Memory} (h : m.wf = true) (b : Buf) (off : Nat) (bs : List Byte) (x : Nat) :
    (memWrite m b off bs).read x =
      if b.base + off ≤ x ∧ x < b.base + off + bs.length then bs.getD (x - (b.base + off)) 0 else m.read x :=
  Memory.read_writeBytes h _ bs x

/-- Storing a host word keeps the canonical form (R69). -/
theorem memSetWord_wf {m : Memory} (h : m.wf = true) (a : Nat) (v : Word) : (memSetWord m a v).wf = true :=
  Memory.writeBytes_wf h a _

theorem Memory.mem_write {m : Memory} {a : Nat} {b : Byte} {c : Host.Cell} (hc : c ∈ m.write a b) :
    c ∈ m ∨ c.1 = a := by
  induction m with
  | nil =>
    simp only [Memory.write] at hc
    split at hc
    · exact .inl hc
    · simp only [List.mem_singleton] at hc; exact .inr (by rw [hc])
  | cons d rest ih =>
    simp only [Memory.write] at hc
    split at hc
    · split at hc
      · exact .inl hc
      · rcases List.mem_cons.mp hc with rfl | hc
        · exact .inr rfl
        · exact .inl hc
    · split at hc
      · split at hc
        · exact .inl (List.mem_cons_of_mem _ hc)
        · rcases List.mem_cons.mp hc with rfl | hc
          · exact .inr rfl
          · exact .inl (List.mem_cons_of_mem _ hc)
      · rcases List.mem_cons.mp hc with rfl | hc
        · exact .inl (List.mem_cons_self ..)
        · rcases ih hc with h | h
          · exact .inl (List.mem_cons_of_mem _ h)
          · exact .inr h

/-- A run of bytes written inside a buffer leaves only buffer bytes listed. -/
theorem memWrite_inBuffers {m : Memory} (h : m.inBuffers = true) (b : Buf) (off : Nat) (bs : List Byte)
    (hfit : off + bs.length ≤ b.size) : (memWrite m b off bs).inBuffers = true := by
  suffices H : ∀ (bs : List Byte) (m : Memory) (a : Nat), m.inBuffers = true → b.base ≤ a →
      a + bs.length ≤ b.base + b.size → (m.writeBytes a bs).inBuffers = true by
    exact H bs m _ h (by omega) (by omega)
  intro bs
  induction bs with
  | nil => intro m a h _ _; exact h
  | cons x xs ih =>
    intro m a h hlo hhi
    simp only [List.length_cons] at hhi
    refine ih _ _ ?_ (by omega) (by omega)
    simp only [Memory.inBuffers, List.all_eq_true] at h ⊢
    intro c hc
    rcases Memory.mem_write hc with hc | hc
    · exact h c hc
    · have : b.holds c.1 = true := by simp [Buf.holds, hc]; omega
      cases b <;> simp [this]

end Sys2Proof.Machine
end

