-- ==== Sys2Proof/Laws/State.lean ====
section
/-! SUPPORT. What each update of the state does to each field: one lemma per field per update, so that no proof
unfolds a record update. -/

namespace Sys2Proof.Machine

variable (s : State)

section setTs
variable (r : TsReg) (v : DWord)
@[simp] theorem setTs_cfg : (setTs s r v).cfg = s.cfg := rfl
@[simp] theorem setTs_phase : (setTs s r v).phase = s.phase := rfl
@[simp] theorem setTs_auto : (setTs s r v).auto = s.auto := rfl
@[simp] theorem setTs_ts : (setTs s r v).ts = s.ts.put r ⟨v, true⟩ := rfl
@[simp] theorem setTs_kRaw : (setTs s r v).kRaw = s.kRaw := rfl
@[simp] theorem setTs_pdoaRaw : (setTs s r v).pdoaRaw = s.pdoaRaw := rfl
@[simp] theorem setTs_dlyTime : (setTs s r v).dlyTime = s.dlyTime := rfl
@[simp] theorem setTs_tofDtu : (setTs s r v).tofDtu = s.tofDtu := rfl
@[simp] theorem setTs_tofS : (setTs s r v).tofS = s.tofS := rfl
@[simp] theorem setTs_distM : (setTs s r v).distM = s.distM := rfl
@[simp] theorem setTs_durMs : (setTs s r v).durMs = s.durMs := rfl
@[simp] theorem setTs_pdoaDeg : (setTs s r v).pdoaDeg = s.pdoaDeg := rfl
@[simp] theorem setTs_vok : (setTs s r v).vok = s.vok := rfl
@[simp] theorem setTs_resultValid : (setTs s r v).resultValid = s.resultValid := rfl
@[simp] theorem setTs_pdoaValid : (setTs s r v).pdoaValid = s.pdoaValid := rfl
@[simp] theorem setTs_durValid : (setTs s r v).durValid = s.durValid := rfl
@[simp] theorem setTs_wrapFlag : (setTs s r v).wrapFlag = s.wrapFlag := rfl
@[simp] theorem setTs_cmdFault : (setTs s r v).cmdFault = s.cmdFault := rfl
@[simp] theorem setTs_firstCycle : (setTs s r v).firstCycle = s.firstCycle := rfl
@[simp] theorem setTs_seq : (setTs s r v).seq = s.seq := rfl
@[simp] theorem setTs_mat : (setTs s r v).mat = s.mat := rfl
@[simp] theorem setTs_pend : (setTs s r v).pend = s.pend := rfl
@[simp] theorem setTs_errCnt : (setTs s r v).errCnt = s.errCnt := rfl
@[simp] theorem setTs_rxErrMask : (setTs s r v).rxErrMask = s.rxErrMask := rfl
@[simp] theorem setTs_fatalCode : (setTs s r v).fatalCode = s.fatalCode := rfl
@[simp] theorem setTs_mem : (setTs s r v).mem = s.mem := rfl
@[simp] theorem setTs_txLen : (setTs s r v).txLen = s.txLen := rfl
@[simp] theorem setTs_rxLen : (setTs s r v).rxLen = s.rxLen := rfl
@[simp] theorem setTs_env : (setTs s r v).env = s.env := rfl
end setTs

section clearTs
@[simp] theorem clearTs_cfg : (clearTs s).cfg = s.cfg := rfl
@[simp] theorem clearTs_phase : (clearTs s).phase = s.phase := rfl
@[simp] theorem clearTs_auto : (clearTs s).auto = s.auto := rfl
@[simp] theorem clearTs_kRaw : (clearTs s).kRaw = s.kRaw := rfl
@[simp] theorem clearTs_pdoaRaw : (clearTs s).pdoaRaw = s.pdoaRaw := rfl
@[simp] theorem clearTs_dlyTime : (clearTs s).dlyTime = s.dlyTime := rfl
@[simp] theorem clearTs_tofDtu : (clearTs s).tofDtu = s.tofDtu := rfl
@[simp] theorem clearTs_tofS : (clearTs s).tofS = s.tofS := rfl
@[simp] theorem clearTs_distM : (clearTs s).distM = s.distM := rfl
@[simp] theorem clearTs_durMs : (clearTs s).durMs = s.durMs := rfl
@[simp] theorem clearTs_pdoaDeg : (clearTs s).pdoaDeg = s.pdoaDeg := rfl
@[simp] theorem clearTs_vok : (clearTs s).vok = s.vok := rfl
@[simp] theorem clearTs_resultValid : (clearTs s).resultValid = s.resultValid := rfl
@[simp] theorem clearTs_pdoaValid : (clearTs s).pdoaValid = s.pdoaValid := rfl
@[simp] theorem clearTs_durValid : (clearTs s).durValid = s.durValid := rfl
@[simp] theorem clearTs_wrapFlag : (clearTs s).wrapFlag = s.wrapFlag := rfl
@[simp] theorem clearTs_cmdFault : (clearTs s).cmdFault = s.cmdFault := rfl
@[simp] theorem clearTs_firstCycle : (clearTs s).firstCycle = s.firstCycle := rfl
@[simp] theorem clearTs_seq : (clearTs s).seq = s.seq := rfl
@[simp] theorem clearTs_mat : (clearTs s).mat = s.mat := rfl
@[simp] theorem clearTs_pend : (clearTs s).pend = s.pend := rfl
@[simp] theorem clearTs_errCnt : (clearTs s).errCnt = s.errCnt := rfl
@[simp] theorem clearTs_rxErrMask : (clearTs s).rxErrMask = s.rxErrMask := rfl
@[simp] theorem clearTs_fatalCode : (clearTs s).fatalCode = s.fatalCode := rfl
@[simp] theorem clearTs_mem : (clearTs s).mem = s.mem := rfl
@[simp] theorem clearTs_txLen : (clearTs s).txLen = s.txLen := rfl
@[simp] theorem clearTs_rxLen : (clearTs s).rxLen = s.rxLen := rfl
@[simp] theorem clearTs_env : (clearTs s).env = s.env := rfl
end clearTs

section storeBytes
variable (b : Buf) (off : Nat) (bs : List Byte)
@[simp] theorem storeBytes_cfg : (storeBytes s b off bs).cfg = s.cfg := rfl
@[simp] theorem storeBytes_phase : (storeBytes s b off bs).phase = s.phase := rfl
@[simp] theorem storeBytes_auto : (storeBytes s b off bs).auto = s.auto := rfl
@[simp] theorem storeBytes_ts : (storeBytes s b off bs).ts = s.ts := rfl
@[simp] theorem storeBytes_kRaw : (storeBytes s b off bs).kRaw = s.kRaw := rfl
@[simp] theorem storeBytes_pdoaRaw : (storeBytes s b off bs).pdoaRaw = s.pdoaRaw := rfl
@[simp] theorem storeBytes_dlyTime : (storeBytes s b off bs).dlyTime = s.dlyTime := rfl
@[simp] theorem storeBytes_tofDtu : (storeBytes s b off bs).tofDtu = s.tofDtu := rfl
@[simp] theorem storeBytes_tofS : (storeBytes s b off bs).tofS = s.tofS := rfl
@[simp] theorem storeBytes_distM : (storeBytes s b off bs).distM = s.distM := rfl
@[simp] theorem storeBytes_durMs : (storeBytes s b off bs).durMs = s.durMs := rfl
@[simp] theorem storeBytes_pdoaDeg : (storeBytes s b off bs).pdoaDeg = s.pdoaDeg := rfl
@[simp] theorem storeBytes_vok : (storeBytes s b off bs).vok = s.vok := rfl
@[simp] theorem storeBytes_resultValid : (storeBytes s b off bs).resultValid = s.resultValid := rfl
@[simp] theorem storeBytes_pdoaValid : (storeBytes s b off bs).pdoaValid = s.pdoaValid := rfl
@[simp] theorem storeBytes_durValid : (storeBytes s b off bs).durValid = s.durValid := rfl
@[simp] theorem storeBytes_wrapFlag : (storeBytes s b off bs).wrapFlag = s.wrapFlag := rfl
@[simp] theorem storeBytes_cmdFault : (storeBytes s b off bs).cmdFault = s.cmdFault := rfl
@[simp] theorem storeBytes_firstCycle : (storeBytes s b off bs).firstCycle = s.firstCycle := rfl
@[simp] theorem storeBytes_seq : (storeBytes s b off bs).seq = s.seq := rfl
@[simp] theorem storeBytes_mat : (storeBytes s b off bs).mat = s.mat := rfl
@[simp] theorem storeBytes_pend : (storeBytes s b off bs).pend = s.pend := rfl
@[simp] theorem storeBytes_errCnt : (storeBytes s b off bs).errCnt = s.errCnt := rfl
@[simp] theorem storeBytes_rxErrMask : (storeBytes s b off bs).rxErrMask = s.rxErrMask := rfl
@[simp] theorem storeBytes_fatalCode : (storeBytes s b off bs).fatalCode = s.fatalCode := rfl
@[simp] theorem storeBytes_mem : (storeBytes s b off bs).mem = memWrite s.mem b off bs := rfl
@[simp] theorem storeBytes_txLen : (storeBytes s b off bs).txLen = s.txLen := rfl
@[simp] theorem storeBytes_rxLen : (storeBytes s b off bs).rxLen = s.rxLen := rfl
@[simp] theorem storeBytes_env : (storeBytes s b off bs).env = s.env := rfl
end storeBytes

section bumpSeq
@[simp] theorem bumpSeq_cfg : (bumpSeq s).cfg = s.cfg := rfl
@[simp] theorem bumpSeq_phase : (bumpSeq s).phase = s.phase := rfl
@[simp] theorem bumpSeq_auto : (bumpSeq s).auto = s.auto := rfl
@[simp] theorem bumpSeq_ts : (bumpSeq s).ts = s.ts := rfl
@[simp] theorem bumpSeq_kRaw : (bumpSeq s).kRaw = s.kRaw := rfl
@[simp] theorem bumpSeq_pdoaRaw : (bumpSeq s).pdoaRaw = s.pdoaRaw := rfl
@[simp] theorem bumpSeq_dlyTime : (bumpSeq s).dlyTime = s.dlyTime := rfl
@[simp] theorem bumpSeq_tofDtu : (bumpSeq s).tofDtu = s.tofDtu := rfl
@[simp] theorem bumpSeq_tofS : (bumpSeq s).tofS = s.tofS := rfl
@[simp] theorem bumpSeq_distM : (bumpSeq s).distM = s.distM := rfl
@[simp] theorem bumpSeq_durMs : (bumpSeq s).durMs = s.durMs := rfl
@[simp] theorem bumpSeq_pdoaDeg : (bumpSeq s).pdoaDeg = s.pdoaDeg := rfl
@[simp] theorem bumpSeq_vok : (bumpSeq s).vok = s.vok := rfl
@[simp] theorem bumpSeq_resultValid : (bumpSeq s).resultValid = s.resultValid := rfl
@[simp] theorem bumpSeq_pdoaValid : (bumpSeq s).pdoaValid = s.pdoaValid := rfl
@[simp] theorem bumpSeq_durValid : (bumpSeq s).durValid = s.durValid := rfl
@[simp] theorem bumpSeq_wrapFlag : (bumpSeq s).wrapFlag = s.wrapFlag := rfl
@[simp] theorem bumpSeq_cmdFault : (bumpSeq s).cmdFault = s.cmdFault := rfl
@[simp] theorem bumpSeq_firstCycle : (bumpSeq s).firstCycle = s.firstCycle := rfl
@[simp] theorem bumpSeq_seq : (bumpSeq s).seq = s.seq + 1 := rfl
@[simp] theorem bumpSeq_mat : (bumpSeq s).mat = s.mat := rfl
@[simp] theorem bumpSeq_pend : (bumpSeq s).pend = s.pend := rfl
@[simp] theorem bumpSeq_errCnt : (bumpSeq s).errCnt = s.errCnt := rfl
@[simp] theorem bumpSeq_rxErrMask : (bumpSeq s).rxErrMask = s.rxErrMask := rfl
@[simp] theorem bumpSeq_fatalCode : (bumpSeq s).fatalCode = s.fatalCode := rfl
@[simp] theorem bumpSeq_mem : (bumpSeq s).mem = s.mem := rfl
@[simp] theorem bumpSeq_txLen : (bumpSeq s).txLen = s.txLen := rfl
@[simp] theorem bumpSeq_rxLen : (bumpSeq s).rxLen = s.rxLen := rfl
@[simp] theorem bumpSeq_env : (bumpSeq s).env = s.env := rfl
end bumpSeq

section countError
variable (k : ErrKind) (m : Byte)
@[simp] theorem countError_cfg : (countError s k m).cfg = s.cfg := rfl
@[simp] theorem countError_phase : (countError s k m).phase = s.phase := rfl
@[simp] theorem countError_auto : (countError s k m).auto = s.auto := rfl
@[simp] theorem countError_ts : (countError s k m).ts = s.ts := rfl
@[simp] theorem countError_kRaw : (countError s k m).kRaw = s.kRaw := rfl
@[simp] theorem countError_pdoaRaw : (countError s k m).pdoaRaw = s.pdoaRaw := rfl
@[simp] theorem countError_dlyTime : (countError s k m).dlyTime = s.dlyTime := rfl
@[simp] theorem countError_tofDtu : (countError s k m).tofDtu = s.tofDtu := rfl
@[simp] theorem countError_tofS : (countError s k m).tofS = s.tofS := rfl
@[simp] theorem countError_distM : (countError s k m).distM = s.distM := rfl
@[simp] theorem countError_durMs : (countError s k m).durMs = s.durMs := rfl
@[simp] theorem countError_pdoaDeg : (countError s k m).pdoaDeg = s.pdoaDeg := rfl
@[simp] theorem countError_vok : (countError s k m).vok = s.vok := rfl
@[simp] theorem countError_resultValid : (countError s k m).resultValid = s.resultValid := rfl
@[simp] theorem countError_pdoaValid : (countError s k m).pdoaValid = s.pdoaValid := rfl
@[simp] theorem countError_durValid : (countError s k m).durValid = s.durValid := rfl
@[simp] theorem countError_wrapFlag : (countError s k m).wrapFlag = s.wrapFlag := rfl
@[simp] theorem countError_cmdFault : (countError s k m).cmdFault = s.cmdFault := rfl
@[simp] theorem countError_firstCycle : (countError s k m).firstCycle = s.firstCycle := rfl
@[simp] theorem countError_seq : (countError s k m).seq = s.seq := rfl
@[simp] theorem countError_mat : (countError s k m).mat = s.mat := rfl
@[simp] theorem countError_pend : (countError s k m).pend = s.pend := rfl
@[simp] theorem countError_errCnt : (countError s k m).errCnt = s.errCnt.bump k := rfl
@[simp] theorem countError_rxErrMask : (countError s k m).rxErrMask = if k = .rxError then m else s.rxErrMask := rfl
@[simp] theorem countError_fatalCode : (countError s k m).fatalCode = s.fatalCode := rfl
@[simp] theorem countError_mem : (countError s k m).mem = s.mem := rfl
@[simp] theorem countError_txLen : (countError s k m).txLen = s.txLen := rfl
@[simp] theorem countError_rxLen : (countError s k m).rxLen = s.rxLen := rfl
@[simp] theorem countError_env : (countError s k m).env = s.env := rfl
end countError

section raiseCmdFault
variable (c : CmdFault)
@[simp] theorem raiseCmdFault_cfg : (raiseCmdFault s c).cfg = s.cfg := rfl
@[simp] theorem raiseCmdFault_phase : (raiseCmdFault s c).phase = s.phase := rfl
@[simp] theorem raiseCmdFault_auto : (raiseCmdFault s c).auto = s.auto := rfl
@[simp] theorem raiseCmdFault_ts : (raiseCmdFault s c).ts = s.ts := rfl
@[simp] theorem raiseCmdFault_kRaw : (raiseCmdFault s c).kRaw = s.kRaw := rfl
@[simp] theorem raiseCmdFault_pdoaRaw : (raiseCmdFault s c).pdoaRaw = s.pdoaRaw := rfl
@[simp] theorem raiseCmdFault_dlyTime : (raiseCmdFault s c).dlyTime = s.dlyTime := rfl
@[simp] theorem raiseCmdFault_tofDtu : (raiseCmdFault s c).tofDtu = s.tofDtu := rfl
@[simp] theorem raiseCmdFault_tofS : (raiseCmdFault s c).tofS = s.tofS := rfl
@[simp] theorem raiseCmdFault_distM : (raiseCmdFault s c).distM = s.distM := rfl
@[simp] theorem raiseCmdFault_durMs : (raiseCmdFault s c).durMs = s.durMs := rfl
@[simp] theorem raiseCmdFault_pdoaDeg : (raiseCmdFault s c).pdoaDeg = s.pdoaDeg := rfl
@[simp] theorem raiseCmdFault_vok : (raiseCmdFault s c).vok = s.vok := rfl
@[simp] theorem raiseCmdFault_resultValid : (raiseCmdFault s c).resultValid = s.resultValid := rfl
@[simp] theorem raiseCmdFault_pdoaValid : (raiseCmdFault s c).pdoaValid = s.pdoaValid := rfl
@[simp] theorem raiseCmdFault_durValid : (raiseCmdFault s c).durValid = s.durValid := rfl
@[simp] theorem raiseCmdFault_wrapFlag : (raiseCmdFault s c).wrapFlag = s.wrapFlag := rfl
@[simp] theorem raiseCmdFault_cmdFault : (raiseCmdFault s c).cmdFault = c := rfl
@[simp] theorem raiseCmdFault_firstCycle : (raiseCmdFault s c).firstCycle = s.firstCycle := rfl
@[simp] theorem raiseCmdFault_seq : (raiseCmdFault s c).seq = s.seq := rfl
@[simp] theorem raiseCmdFault_mat : (raiseCmdFault s c).mat = s.mat := rfl
@[simp] theorem raiseCmdFault_pend : (raiseCmdFault s c).pend = s.pend := rfl
@[simp] theorem raiseCmdFault_errCnt : (raiseCmdFault s c).errCnt = s.errCnt := rfl
@[simp] theorem raiseCmdFault_rxErrMask : (raiseCmdFault s c).rxErrMask = s.rxErrMask := rfl
@[simp] theorem raiseCmdFault_fatalCode : (raiseCmdFault s c).fatalCode = s.fatalCode := rfl
@[simp] theorem raiseCmdFault_mem : (raiseCmdFault s c).mem = s.mem := rfl
@[simp] theorem raiseCmdFault_txLen : (raiseCmdFault s c).txLen = s.txLen := rfl
@[simp] theorem raiseCmdFault_rxLen : (raiseCmdFault s c).rxLen = s.rxLen := rfl
@[simp] theorem raiseCmdFault_env : (raiseCmdFault s c).env = s.env := rfl
end raiseCmdFault

section raiseErr
variable (k : ErrKind) (m : Byte)
@[simp] theorem raiseErr_cfg : (raiseErr s k m).cfg = s.cfg := rfl
@[simp] theorem raiseErr_phase : (raiseErr s k m).phase = .idle := rfl
@[simp] theorem raiseErr_auto : (raiseErr s k m).auto = s.auto := rfl
@[simp] theorem raiseErr_ts : (raiseErr s k m).ts = (clearTs s).ts := rfl
@[simp] theorem raiseErr_kRaw : (raiseErr s k m).kRaw = s.kRaw := rfl
@[simp] theorem raiseErr_pdoaRaw : (raiseErr s k m).pdoaRaw = s.pdoaRaw := rfl
@[simp] theorem raiseErr_dlyTime : (raiseErr s k m).dlyTime = s.dlyTime := rfl
@[simp] theorem raiseErr_tofDtu : (raiseErr s k m).tofDtu = s.tofDtu := rfl
@[simp] theorem raiseErr_tofS : (raiseErr s k m).tofS = s.tofS := rfl
@[simp] theorem raiseErr_distM : (raiseErr s k m).distM = s.distM := rfl
@[simp] theorem raiseErr_durMs : (raiseErr s k m).durMs = s.durMs := rfl
@[simp] theorem raiseErr_pdoaDeg : (raiseErr s k m).pdoaDeg = s.pdoaDeg := rfl
@[simp] theorem raiseErr_vok : (raiseErr s k m).vok = s.vok := rfl
@[simp] theorem raiseErr_resultValid : (raiseErr s k m).resultValid = s.resultValid := rfl
@[simp] theorem raiseErr_pdoaValid : (raiseErr s k m).pdoaValid = s.pdoaValid := rfl
@[simp] theorem raiseErr_durValid : (raiseErr s k m).durValid = s.durValid := rfl
@[simp] theorem raiseErr_wrapFlag : (raiseErr s k m).wrapFlag = s.wrapFlag := rfl
@[simp] theorem raiseErr_cmdFault : (raiseErr s k m).cmdFault = s.cmdFault := rfl
@[simp] theorem raiseErr_firstCycle : (raiseErr s k m).firstCycle = s.firstCycle := rfl
@[simp] theorem raiseErr_seq : (raiseErr s k m).seq = s.seq := rfl
@[simp] theorem raiseErr_mat : (raiseErr s k m).mat = s.mat := rfl
@[simp] theorem raiseErr_pend : (raiseErr s k m).pend = s.pend := rfl
@[simp] theorem raiseErr_errCnt : (raiseErr s k m).errCnt = s.errCnt.bump k := rfl
@[simp] theorem raiseErr_rxErrMask : (raiseErr s k m).rxErrMask = if k = .rxError then m else s.rxErrMask := rfl
@[simp] theorem raiseErr_fatalCode : (raiseErr s k m).fatalCode = s.fatalCode := rfl
@[simp] theorem raiseErr_mem : (raiseErr s k m).mem = s.mem := rfl
@[simp] theorem raiseErr_txLen : (raiseErr s k m).txLen = s.txLen := rfl
@[simp] theorem raiseErr_rxLen : (raiseErr s k m).rxLen = s.rxLen := rfl
@[simp] theorem raiseErr_env : (raiseErr s k m).env = s.env := rfl
end raiseErr

section raiseFatal
variable (c : Byte)
@[simp] theorem raiseFatal_cfg : (raiseFatal s c).cfg = s.cfg := rfl
@[simp] theorem raiseFatal_phase : (raiseFatal s c).phase = .fatal := rfl
@[simp] theorem raiseFatal_auto : (raiseFatal s c).auto = s.auto := rfl
@[simp] theorem raiseFatal_ts : (raiseFatal s c).ts = s.ts := rfl
@[simp] theorem raiseFatal_kRaw : (raiseFatal s c).kRaw = s.kRaw := rfl
@[simp] theorem raiseFatal_pdoaRaw : (raiseFatal s c).pdoaRaw = s.pdoaRaw := rfl
@[simp] theorem raiseFatal_dlyTime : (raiseFatal s c).dlyTime = s.dlyTime := rfl
@[simp] theorem raiseFatal_tofDtu : (raiseFatal s c).tofDtu = s.tofDtu := rfl
@[simp] theorem raiseFatal_tofS : (raiseFatal s c).tofS = s.tofS := rfl
@[simp] theorem raiseFatal_distM : (raiseFatal s c).distM = s.distM := rfl
@[simp] theorem raiseFatal_durMs : (raiseFatal s c).durMs = s.durMs := rfl
@[simp] theorem raiseFatal_pdoaDeg : (raiseFatal s c).pdoaDeg = s.pdoaDeg := rfl
@[simp] theorem raiseFatal_vok : (raiseFatal s c).vok = s.vok := rfl
@[simp] theorem raiseFatal_resultValid : (raiseFatal s c).resultValid = s.resultValid := rfl
@[simp] theorem raiseFatal_pdoaValid : (raiseFatal s c).pdoaValid = s.pdoaValid := rfl
@[simp] theorem raiseFatal_durValid : (raiseFatal s c).durValid = s.durValid := rfl
@[simp] theorem raiseFatal_wrapFlag : (raiseFatal s c).wrapFlag = s.wrapFlag := rfl
@[simp] theorem raiseFatal_cmdFault : (raiseFatal s c).cmdFault = s.cmdFault := rfl
@[simp] theorem raiseFatal_firstCycle : (raiseFatal s c).firstCycle = s.firstCycle := rfl
@[simp] theorem raiseFatal_seq : (raiseFatal s c).seq = s.seq := rfl
@[simp] theorem raiseFatal_mat : (raiseFatal s c).mat = s.mat := rfl
@[simp] theorem raiseFatal_pend : (raiseFatal s c).pend = s.pend := rfl
@[simp] theorem raiseFatal_errCnt : (raiseFatal s c).errCnt = s.errCnt := rfl
@[simp] theorem raiseFatal_rxErrMask : (raiseFatal s c).rxErrMask = s.rxErrMask := rfl
@[simp] theorem raiseFatal_fatalCode : (raiseFatal s c).fatalCode = c := rfl
@[simp] theorem raiseFatal_mem : (raiseFatal s c).mem = s.mem := rfl
@[simp] theorem raiseFatal_txLen : (raiseFatal s c).txLen = s.txLen := rfl
@[simp] theorem raiseFatal_rxLen : (raiseFatal s c).rxLen = s.rxLen := rfl
@[simp] theorem raiseFatal_env : (raiseFatal s c).env = s.env := rfl
end raiseFatal

section endCycle
@[simp] theorem endCycle_cfg : (endCycle s).cfg = s.cfg := rfl
@[simp] theorem endCycle_phase : (endCycle s).phase = .idle := rfl
@[simp] theorem endCycle_auto : (endCycle s).auto = s.auto := rfl
@[simp] theorem endCycle_ts : (endCycle s).ts = (clearTs s).ts := rfl
@[simp] theorem endCycle_kRaw : (endCycle s).kRaw = s.kRaw := rfl
@[simp] theorem endCycle_pdoaRaw : (endCycle s).pdoaRaw = s.pdoaRaw := rfl
@[simp] theorem endCycle_dlyTime : (endCycle s).dlyTime = s.dlyTime := rfl
@[simp] theorem endCycle_tofDtu : (endCycle s).tofDtu = s.tofDtu := rfl
@[simp] theorem endCycle_tofS : (endCycle s).tofS = s.tofS := rfl
@[simp] theorem endCycle_distM : (endCycle s).distM = s.distM := rfl
@[simp] theorem endCycle_durMs : (endCycle s).durMs = s.durMs := rfl
@[simp] theorem endCycle_pdoaDeg : (endCycle s).pdoaDeg = s.pdoaDeg := rfl
@[simp] theorem endCycle_vok : (endCycle s).vok = s.vok := rfl
@[simp] theorem endCycle_resultValid : (endCycle s).resultValid = s.resultValid := rfl
@[simp] theorem endCycle_pdoaValid : (endCycle s).pdoaValid = s.pdoaValid := rfl
@[simp] theorem endCycle_durValid : (endCycle s).durValid = s.durValid := rfl
@[simp] theorem endCycle_wrapFlag : (endCycle s).wrapFlag = s.wrapFlag := rfl
@[simp] theorem endCycle_cmdFault : (endCycle s).cmdFault = s.cmdFault := rfl
@[simp] theorem endCycle_firstCycle : (endCycle s).firstCycle = s.firstCycle := rfl
@[simp] theorem endCycle_seq : (endCycle s).seq = s.seq := rfl
@[simp] theorem endCycle_mat : (endCycle s).mat = s.mat := rfl
@[simp] theorem endCycle_pend : (endCycle s).pend = s.pend := rfl
@[simp] theorem endCycle_errCnt : (endCycle s).errCnt = s.errCnt := rfl
@[simp] theorem endCycle_rxErrMask : (endCycle s).rxErrMask = s.rxErrMask := rfl
@[simp] theorem endCycle_fatalCode : (endCycle s).fatalCode = s.fatalCode := rfl
@[simp] theorem endCycle_mem : (endCycle s).mem = s.mem := rfl
@[simp] theorem endCycle_txLen : (endCycle s).txLen = s.txLen := rfl
@[simp] theorem endCycle_rxLen : (endCycle s).rxLen = s.rxLen := rfl
@[simp] theorem endCycle_env : (endCycle s).env = s.env := rfl
end endCycle

section setResults
variable (d : DWord)
@[simp] theorem setResults_cfg : (setResults s d).cfg = s.cfg := rfl
@[simp] theorem setResults_phase : (setResults s d).phase = s.phase := rfl
@[simp] theorem setResults_auto : (setResults s d).auto = s.auto := rfl
@[simp] theorem setResults_ts : (setResults s d).ts = s.ts := rfl
@[simp] theorem setResults_kRaw : (setResults s d).kRaw = s.kRaw := rfl
@[simp] theorem setResults_pdoaRaw : (setResults s d).pdoaRaw = s.pdoaRaw := rfl
@[simp] theorem setResults_dlyTime : (setResults s d).dlyTime = s.dlyTime := rfl
@[simp] theorem setResults_tofDtu : (setResults s d).tofDtu = settleNaN (Config.freeNaN s.env.free) d := rfl
@[simp] theorem setResults_durMs : (setResults s d).durMs = s.durMs := rfl
@[simp] theorem setResults_pdoaDeg : (setResults s d).pdoaDeg = s.pdoaDeg := rfl
@[simp] theorem setResults_vok : (setResults s d).vok = s.vok := rfl
@[simp] theorem setResults_resultValid : (setResults s d).resultValid = true := rfl
@[simp] theorem setResults_pdoaValid : (setResults s d).pdoaValid = s.pdoaValid := rfl
@[simp] theorem setResults_durValid : (setResults s d).durValid = s.durValid := rfl
@[simp] theorem setResults_wrapFlag : (setResults s d).wrapFlag = s.wrapFlag := rfl
@[simp] theorem setResults_cmdFault : (setResults s d).cmdFault = s.cmdFault := rfl
@[simp] theorem setResults_firstCycle : (setResults s d).firstCycle = s.firstCycle := rfl
@[simp] theorem setResults_seq : (setResults s d).seq = s.seq := rfl
@[simp] theorem setResults_mat : (setResults s d).mat = s.mat := rfl
@[simp] theorem setResults_pend : (setResults s d).pend = s.pend := rfl
@[simp] theorem setResults_errCnt : (setResults s d).errCnt = s.errCnt := rfl
@[simp] theorem setResults_rxErrMask : (setResults s d).rxErrMask = s.rxErrMask := rfl
@[simp] theorem setResults_fatalCode : (setResults s d).fatalCode = s.fatalCode := rfl
@[simp] theorem setResults_mem : (setResults s d).mem = s.mem := rfl
@[simp] theorem setResults_txLen : (setResults s d).txLen = s.txLen := rfl
@[simp] theorem setResults_rxLen : (setResults s d).rxLen = s.rxLen := rfl
@[simp] theorem setResults_env_inputs : (setResults s d).env.inputs = s.env.inputs := rfl
@[simp] theorem setResults_env_answers : (setResults s d).env.answers = s.env.answers := rfl
@[simp] theorem setResults_env_free : (setResults s d).env.free = s.env.free + 3 := rfl
@[simp] theorem setResults_env_calls : (setResults s d).env.calls = s.env.calls := rfl
@[simp] theorem setResults_env_sink : (setResults s d).env.sink = s.env.sink := rfl
@[simp] theorem setResults_env_readBack : (setResults s d).env.readBack = s.env.readBack := rfl
end setResults

section emit
variable (bs : List Byte)
@[simp] theorem emit_cfg : (emit s bs).cfg = s.cfg := rfl
@[simp] theorem emit_phase : (emit s bs).phase = s.phase := rfl
@[simp] theorem emit_auto : (emit s bs).auto = s.auto := rfl
@[simp] theorem emit_ts : (emit s bs).ts = s.ts := rfl
@[simp] theorem emit_kRaw : (emit s bs).kRaw = s.kRaw := rfl
@[simp] theorem emit_pdoaRaw : (emit s bs).pdoaRaw = s.pdoaRaw := rfl
@[simp] theorem emit_dlyTime : (emit s bs).dlyTime = s.dlyTime := rfl
@[simp] theorem emit_tofDtu : (emit s bs).tofDtu = s.tofDtu := rfl
@[simp] theorem emit_tofS : (emit s bs).tofS = s.tofS := rfl
@[simp] theorem emit_distM : (emit s bs).distM = s.distM := rfl
@[simp] theorem emit_durMs : (emit s bs).durMs = s.durMs := rfl
@[simp] theorem emit_pdoaDeg : (emit s bs).pdoaDeg = s.pdoaDeg := rfl
@[simp] theorem emit_vok : (emit s bs).vok = s.vok := rfl
@[simp] theorem emit_resultValid : (emit s bs).resultValid = s.resultValid := rfl
@[simp] theorem emit_pdoaValid : (emit s bs).pdoaValid = s.pdoaValid := rfl
@[simp] theorem emit_durValid : (emit s bs).durValid = s.durValid := rfl
@[simp] theorem emit_wrapFlag : (emit s bs).wrapFlag = s.wrapFlag := rfl
@[simp] theorem emit_cmdFault : (emit s bs).cmdFault = s.cmdFault := rfl
@[simp] theorem emit_firstCycle : (emit s bs).firstCycle = s.firstCycle := rfl
@[simp] theorem emit_seq : (emit s bs).seq = s.seq := rfl
@[simp] theorem emit_mat : (emit s bs).mat = s.mat := rfl
@[simp] theorem emit_pend : (emit s bs).pend = s.pend := rfl
@[simp] theorem emit_errCnt : (emit s bs).errCnt = s.errCnt := rfl
@[simp] theorem emit_rxErrMask : (emit s bs).rxErrMask = s.rxErrMask := rfl
@[simp] theorem emit_fatalCode : (emit s bs).fatalCode = s.fatalCode := rfl
@[simp] theorem emit_mem : (emit s bs).mem = s.mem := rfl
@[simp] theorem emit_txLen : (emit s bs).txLen = s.txLen := rfl
@[simp] theorem emit_rxLen : (emit s bs).rxLen = s.rxLen := rfl
@[simp] theorem emit_env_inputs : (emit s bs).env.inputs = s.env.inputs := rfl
@[simp] theorem emit_env_answers : (emit s bs).env.answers = s.env.answers := rfl
@[simp] theorem emit_env_free : (emit s bs).env.free = s.env.free := rfl
@[simp] theorem emit_env_calls : (emit s bs).env.calls = s.env.calls := rfl
@[simp] theorem emit_env_sink : (emit s bs).env.sink = s.env.sink ++ bs := rfl
@[simp] theorem emit_env_readBack : (emit s bs).env.readBack = s.env.readBack := rfl
end emit

section call
variable (c : RadioCall)
@[simp] theorem call_cfg : (call s c).cfg = s.cfg := rfl
@[simp] theorem call_phase : (call s c).phase = s.phase := rfl
@[simp] theorem call_auto : (call s c).auto = s.auto := rfl
@[simp] theorem call_ts : (call s c).ts = s.ts := rfl
@[simp] theorem call_kRaw : (call s c).kRaw = s.kRaw := rfl
@[simp] theorem call_pdoaRaw : (call s c).pdoaRaw = s.pdoaRaw := rfl
@[simp] theorem call_dlyTime : (call s c).dlyTime = s.dlyTime := rfl
@[simp] theorem call_tofDtu : (call s c).tofDtu = s.tofDtu := rfl
@[simp] theorem call_tofS : (call s c).tofS = s.tofS := rfl
@[simp] theorem call_distM : (call s c).distM = s.distM := rfl
@[simp] theorem call_durMs : (call s c).durMs = s.durMs := rfl
@[simp] theorem call_pdoaDeg : (call s c).pdoaDeg = s.pdoaDeg := rfl
@[simp] theorem call_vok : (call s c).vok = s.vok := rfl
@[simp] theorem call_resultValid : (call s c).resultValid = s.resultValid := rfl
@[simp] theorem call_pdoaValid : (call s c).pdoaValid = s.pdoaValid := rfl
@[simp] theorem call_durValid : (call s c).durValid = s.durValid := rfl
@[simp] theorem call_wrapFlag : (call s c).wrapFlag = s.wrapFlag := rfl
@[simp] theorem call_cmdFault : (call s c).cmdFault = s.cmdFault := rfl
@[simp] theorem call_firstCycle : (call s c).firstCycle = s.firstCycle := rfl
@[simp] theorem call_seq : (call s c).seq = s.seq := rfl
@[simp] theorem call_mat : (call s c).mat = s.mat := rfl
@[simp] theorem call_pend : (call s c).pend = s.pend := rfl
@[simp] theorem call_errCnt : (call s c).errCnt = s.errCnt := rfl
@[simp] theorem call_rxErrMask : (call s c).rxErrMask = s.rxErrMask := rfl
@[simp] theorem call_fatalCode : (call s c).fatalCode = s.fatalCode := rfl
@[simp] theorem call_mem : (call s c).mem = s.mem := rfl
@[simp] theorem call_txLen : (call s c).txLen = s.txLen := rfl
@[simp] theorem call_rxLen : (call s c).rxLen = s.rxLen := rfl
@[simp] theorem call_env_inputs : (call s c).env.inputs = s.env.inputs := rfl
@[simp] theorem call_env_answers : (call s c).env.answers = s.env.answers := rfl
@[simp] theorem call_env_free : (call s c).env.free = s.env.free := rfl
@[simp] theorem call_env_calls : (call s c).env.calls = s.env.calls ++ [c] := rfl
@[simp] theorem call_env_sink : (call s c).env.sink = s.env.sink := rfl
@[simp] theorem call_env_readBack : (call s c).env.readBack = s.env.readBack := rfl
end call

section withAnswers
variable (a : RadioAnswers) (n : Nat)
@[simp] theorem withAnswers_cfg : (withAnswers s a n).cfg = s.cfg := rfl
@[simp] theorem withAnswers_phase : (withAnswers s a n).phase = s.phase := rfl
@[simp] theorem withAnswers_auto : (withAnswers s a n).auto = s.auto := rfl
@[simp] theorem withAnswers_ts : (withAnswers s a n).ts = s.ts := rfl
@[simp] theorem withAnswers_kRaw : (withAnswers s a n).kRaw = s.kRaw := rfl
@[simp] theorem withAnswers_pdoaRaw : (withAnswers s a n).pdoaRaw = s.pdoaRaw := rfl
@[simp] theorem withAnswers_dlyTime : (withAnswers s a n).dlyTime = s.dlyTime := rfl
@[simp] theorem withAnswers_tofDtu : (withAnswers s a n).tofDtu = s.tofDtu := rfl
@[simp] theorem withAnswers_tofS : (withAnswers s a n).tofS = s.tofS := rfl
@[simp] theorem withAnswers_distM : (withAnswers s a n).distM = s.distM := rfl
@[simp] theorem withAnswers_durMs : (withAnswers s a n).durMs = s.durMs := rfl
@[simp] theorem withAnswers_pdoaDeg : (withAnswers s a n).pdoaDeg = s.pdoaDeg := rfl
@[simp] theorem withAnswers_vok : (withAnswers s a n).vok = s.vok := rfl
@[simp] theorem withAnswers_resultValid : (withAnswers s a n).resultValid = s.resultValid := rfl
@[simp] theorem withAnswers_pdoaValid : (withAnswers s a n).pdoaValid = s.pdoaValid := rfl
@[simp] theorem withAnswers_durValid : (withAnswers s a n).durValid = s.durValid := rfl
@[simp] theorem withAnswers_wrapFlag : (withAnswers s a n).wrapFlag = s.wrapFlag := rfl
@[simp] theorem withAnswers_cmdFault : (withAnswers s a n).cmdFault = s.cmdFault := rfl
@[simp] theorem withAnswers_firstCycle : (withAnswers s a n).firstCycle = s.firstCycle := rfl
@[simp] theorem withAnswers_seq : (withAnswers s a n).seq = s.seq := rfl
@[simp] theorem withAnswers_mat : (withAnswers s a n).mat = s.mat := rfl
@[simp] theorem withAnswers_pend : (withAnswers s a n).pend = s.pend := rfl
@[simp] theorem withAnswers_errCnt : (withAnswers s a n).errCnt = s.errCnt := rfl
@[simp] theorem withAnswers_rxErrMask : (withAnswers s a n).rxErrMask = s.rxErrMask := rfl
@[simp] theorem withAnswers_fatalCode : (withAnswers s a n).fatalCode = s.fatalCode := rfl
@[simp] theorem withAnswers_mem : (withAnswers s a n).mem = s.mem := rfl
@[simp] theorem withAnswers_txLen : (withAnswers s a n).txLen = s.txLen := rfl
@[simp] theorem withAnswers_rxLen : (withAnswers s a n).rxLen = s.rxLen := rfl
@[simp] theorem withAnswers_env_inputs : (withAnswers s a n).env.inputs = s.env.inputs := rfl
@[simp] theorem withAnswers_env_answers : (withAnswers s a n).env.answers = a := rfl
@[simp] theorem withAnswers_env_free : (withAnswers s a n).env.free = n := rfl
@[simp] theorem withAnswers_env_calls : (withAnswers s a n).env.calls = s.env.calls := rfl
@[simp] theorem withAnswers_env_sink : (withAnswers s a n).env.sink = s.env.sink := rfl
@[simp] theorem withAnswers_env_readBack : (withAnswers s a n).env.readBack = s.env.readBack := rfl
end withAnswers

section withInputs
variable (l : List Input)
@[simp] theorem withInputs_cfg : (withInputs s l).cfg = s.cfg := rfl
@[simp] theorem withInputs_phase : (withInputs s l).phase = s.phase := rfl
@[simp] theorem withInputs_auto : (withInputs s l).auto = s.auto := rfl
@[simp] theorem withInputs_ts : (withInputs s l).ts = s.ts := rfl
@[simp] theorem withInputs_kRaw : (withInputs s l).kRaw = s.kRaw := rfl
@[simp] theorem withInputs_pdoaRaw : (withInputs s l).pdoaRaw = s.pdoaRaw := rfl
@[simp] theorem withInputs_dlyTime : (withInputs s l).dlyTime = s.dlyTime := rfl
@[simp] theorem withInputs_tofDtu : (withInputs s l).tofDtu = s.tofDtu := rfl
@[simp] theorem withInputs_tofS : (withInputs s l).tofS = s.tofS := rfl
@[simp] theorem withInputs_distM : (withInputs s l).distM = s.distM := rfl
@[simp] theorem withInputs_durMs : (withInputs s l).durMs = s.durMs := rfl
@[simp] theorem withInputs_pdoaDeg : (withInputs s l).pdoaDeg = s.pdoaDeg := rfl
@[simp] theorem withInputs_vok : (withInputs s l).vok = s.vok := rfl
@[simp] theorem withInputs_resultValid : (withInputs s l).resultValid = s.resultValid := rfl
@[simp] theorem withInputs_pdoaValid : (withInputs s l).pdoaValid = s.pdoaValid := rfl
@[simp] theorem withInputs_durValid : (withInputs s l).durValid = s.durValid := rfl
@[simp] theorem withInputs_wrapFlag : (withInputs s l).wrapFlag = s.wrapFlag := rfl
@[simp] theorem withInputs_cmdFault : (withInputs s l).cmdFault = s.cmdFault := rfl
@[simp] theorem withInputs_firstCycle : (withInputs s l).firstCycle = s.firstCycle := rfl
@[simp] theorem withInputs_seq : (withInputs s l).seq = s.seq := rfl
@[simp] theorem withInputs_mat : (withInputs s l).mat = s.mat := rfl
@[simp] theorem withInputs_pend : (withInputs s l).pend = s.pend := rfl
@[simp] theorem withInputs_errCnt : (withInputs s l).errCnt = s.errCnt := rfl
@[simp] theorem withInputs_rxErrMask : (withInputs s l).rxErrMask = s.rxErrMask := rfl
@[simp] theorem withInputs_fatalCode : (withInputs s l).fatalCode = s.fatalCode := rfl
@[simp] theorem withInputs_mem : (withInputs s l).mem = s.mem := rfl
@[simp] theorem withInputs_txLen : (withInputs s l).txLen = s.txLen := rfl
@[simp] theorem withInputs_rxLen : (withInputs s l).rxLen = s.rxLen := rfl
@[simp] theorem withInputs_env_inputs : (withInputs s l).env.inputs = l := rfl
@[simp] theorem withInputs_env_answers : (withInputs s l).env.answers = s.env.answers := rfl
@[simp] theorem withInputs_env_free : (withInputs s l).env.free = s.env.free := rfl
@[simp] theorem withInputs_env_calls : (withInputs s l).env.calls = s.env.calls := rfl
@[simp] theorem withInputs_env_sink : (withInputs s l).env.sink = s.env.sink := rfl
@[simp] theorem withInputs_env_readBack : (withInputs s l).env.readBack = s.env.readBack := rfl
end withInputs

end Sys2Proof.Machine
end

