-- ==== Sys2Proof/Laws/Radio.lean ====
section
/-! SUPPORT. A radio call changes the environment record only, `read_frame` also RXBUF and RXLEN: one lemma per
field per call. -/

namespace Sys2Proof.Machine

variable (s : State)

section radioConfigure
@[simp] theorem radioConfigure_cfg : ((radioConfigure s).2).cfg = s.cfg := rfl
@[simp] theorem radioConfigure_phase : ((radioConfigure s).2).phase = s.phase := rfl
@[simp] theorem radioConfigure_auto : ((radioConfigure s).2).auto = s.auto := rfl
@[simp] theorem radioConfigure_ts : ((radioConfigure s).2).ts = s.ts := rfl
@[simp] theorem radioConfigure_kRaw : ((radioConfigure s).2).kRaw = s.kRaw := rfl
@[simp] theorem radioConfigure_pdoaRaw : ((radioConfigure s).2).pdoaRaw = s.pdoaRaw := rfl
@[simp] theorem radioConfigure_dlyTime : ((radioConfigure s).2).dlyTime = s.dlyTime := rfl
@[simp] theorem radioConfigure_tofDtu : ((radioConfigure s).2).tofDtu = s.tofDtu := rfl
@[simp] theorem radioConfigure_tofS : ((radioConfigure s).2).tofS = s.tofS := rfl
@[simp] theorem radioConfigure_distM : ((radioConfigure s).2).distM = s.distM := rfl
@[simp] theorem radioConfigure_durMs : ((radioConfigure s).2).durMs = s.durMs := rfl
@[simp] theorem radioConfigure_pdoaDeg : ((radioConfigure s).2).pdoaDeg = s.pdoaDeg := rfl
@[simp] theorem radioConfigure_vok : ((radioConfigure s).2).vok = s.vok := rfl
@[simp] theorem radioConfigure_resultValid : ((radioConfigure s).2).resultValid = s.resultValid := rfl
@[simp] theorem radioConfigure_pdoaValid : ((radioConfigure s).2).pdoaValid = s.pdoaValid := rfl
@[simp] theorem radioConfigure_durValid : ((radioConfigure s).2).durValid = s.durValid := rfl
@[simp] theorem radioConfigure_wrapFlag : ((radioConfigure s).2).wrapFlag = s.wrapFlag := rfl
@[simp] theorem radioConfigure_cmdFault : ((radioConfigure s).2).cmdFault = s.cmdFault := rfl
@[simp] theorem radioConfigure_firstCycle : ((radioConfigure s).2).firstCycle = s.firstCycle := rfl
@[simp] theorem radioConfigure_seq : ((radioConfigure s).2).seq = s.seq := rfl
@[simp] theorem radioConfigure_mat : ((radioConfigure s).2).mat = s.mat := rfl
@[simp] theorem radioConfigure_pend : ((radioConfigure s).2).pend = s.pend := rfl
@[simp] theorem radioConfigure_errCnt : ((radioConfigure s).2).errCnt = s.errCnt := rfl
@[simp] theorem radioConfigure_rxErrMask : ((radioConfigure s).2).rxErrMask = s.rxErrMask := rfl
@[simp] theorem radioConfigure_fatalCode : ((radioConfigure s).2).fatalCode = s.fatalCode := rfl
@[simp] theorem radioConfigure_mem : ((radioConfigure s).2).mem = s.mem := rfl
@[simp] theorem radioConfigure_txLen : ((radioConfigure s).2).txLen = s.txLen := rfl
@[simp] theorem radioConfigure_rxLen : ((radioConfigure s).2).rxLen = s.rxLen := rfl
@[simp] theorem radioConfigure_env_inputs : ((radioConfigure s).2).env.inputs = s.env.inputs := rfl
@[simp] theorem radioConfigure_env_sink : ((radioConfigure s).2).env.sink = s.env.sink := rfl
@[simp] theorem radioConfigure_env_readBack : ((radioConfigure s).2).env.readBack = s.env.readBack := rfl
end radioConfigure

section radioArmRx
variable (m : RxMode)
@[simp] theorem radioArmRx_cfg : (radioArmRx s m).cfg = s.cfg := rfl
@[simp] theorem radioArmRx_phase : (radioArmRx s m).phase = s.phase := rfl
@[simp] theorem radioArmRx_auto : (radioArmRx s m).auto = s.auto := rfl
@[simp] theorem radioArmRx_ts : (radioArmRx s m).ts = s.ts := rfl
@[simp] theorem radioArmRx_kRaw : (radioArmRx s m).kRaw = s.kRaw := rfl
@[simp] theorem radioArmRx_pdoaRaw : (radioArmRx s m).pdoaRaw = s.pdoaRaw := rfl
@[simp] theorem radioArmRx_dlyTime : (radioArmRx s m).dlyTime = s.dlyTime := rfl
@[simp] theorem radioArmRx_tofDtu : (radioArmRx s m).tofDtu = s.tofDtu := rfl
@[simp] theorem radioArmRx_tofS : (radioArmRx s m).tofS = s.tofS := rfl
@[simp] theorem radioArmRx_distM : (radioArmRx s m).distM = s.distM := rfl
@[simp] theorem radioArmRx_durMs : (radioArmRx s m).durMs = s.durMs := rfl
@[simp] theorem radioArmRx_pdoaDeg : (radioArmRx s m).pdoaDeg = s.pdoaDeg := rfl
@[simp] theorem radioArmRx_vok : (radioArmRx s m).vok = s.vok := rfl
@[simp] theorem radioArmRx_resultValid : (radioArmRx s m).resultValid = s.resultValid := rfl
@[simp] theorem radioArmRx_pdoaValid : (radioArmRx s m).pdoaValid = s.pdoaValid := rfl
@[simp] theorem radioArmRx_durValid : (radioArmRx s m).durValid = s.durValid := rfl
@[simp] theorem radioArmRx_wrapFlag : (radioArmRx s m).wrapFlag = s.wrapFlag := rfl
@[simp] theorem radioArmRx_cmdFault : (radioArmRx s m).cmdFault = s.cmdFault := rfl
@[simp] theorem radioArmRx_firstCycle : (radioArmRx s m).firstCycle = s.firstCycle := rfl
@[simp] theorem radioArmRx_seq : (radioArmRx s m).seq = s.seq := rfl
@[simp] theorem radioArmRx_mat : (radioArmRx s m).mat = s.mat := rfl
@[simp] theorem radioArmRx_pend : (radioArmRx s m).pend = s.pend := rfl
@[simp] theorem radioArmRx_errCnt : (radioArmRx s m).errCnt = s.errCnt := rfl
@[simp] theorem radioArmRx_rxErrMask : (radioArmRx s m).rxErrMask = s.rxErrMask := rfl
@[simp] theorem radioArmRx_fatalCode : (radioArmRx s m).fatalCode = s.fatalCode := rfl
@[simp] theorem radioArmRx_mem : (radioArmRx s m).mem = s.mem := rfl
@[simp] theorem radioArmRx_txLen : (radioArmRx s m).txLen = s.txLen := rfl
@[simp] theorem radioArmRx_rxLen : (radioArmRx s m).rxLen = s.rxLen := rfl
@[simp] theorem radioArmRx_env_inputs : (radioArmRx s m).env.inputs = s.env.inputs := rfl
@[simp] theorem radioArmRx_env_sink : (radioArmRx s m).env.sink = s.env.sink := rfl
@[simp] theorem radioArmRx_env_readBack : (radioArmRx s m).env.readBack = s.env.readBack := rfl
end radioArmRx

section radioArmTx
variable (m : TxMode) (e : Bool)
@[simp] theorem radioArmTx_cfg : ((radioArmTx s m e).2).cfg = s.cfg := by cases m <;> rfl
@[simp] theorem radioArmTx_phase : ((radioArmTx s m e).2).phase = s.phase := by cases m <;> rfl
@[simp] theorem radioArmTx_auto : ((radioArmTx s m e).2).auto = s.auto := by cases m <;> rfl
@[simp] theorem radioArmTx_ts : ((radioArmTx s m e).2).ts = s.ts := by cases m <;> rfl
@[simp] theorem radioArmTx_kRaw : ((radioArmTx s m e).2).kRaw = s.kRaw := by cases m <;> rfl
@[simp] theorem radioArmTx_pdoaRaw : ((radioArmTx s m e).2).pdoaRaw = s.pdoaRaw := by cases m <;> rfl
@[simp] theorem radioArmTx_dlyTime : ((radioArmTx s m e).2).dlyTime = s.dlyTime := by cases m <;> rfl
@[simp] theorem radioArmTx_tofDtu : ((radioArmTx s m e).2).tofDtu = s.tofDtu := by cases m <;> rfl
@[simp] theorem radioArmTx_tofS : ((radioArmTx s m e).2).tofS = s.tofS := by cases m <;> rfl
@[simp] theorem radioArmTx_distM : ((radioArmTx s m e).2).distM = s.distM := by cases m <;> rfl
@[simp] theorem radioArmTx_durMs : ((radioArmTx s m e).2).durMs = s.durMs := by cases m <;> rfl
@[simp] theorem radioArmTx_pdoaDeg : ((radioArmTx s m e).2).pdoaDeg = s.pdoaDeg := by cases m <;> rfl
@[simp] theorem radioArmTx_vok : ((radioArmTx s m e).2).vok = s.vok := by cases m <;> rfl
@[simp] theorem radioArmTx_resultValid : ((radioArmTx s m e).2).resultValid = s.resultValid := by cases m <;> rfl
@[simp] theorem radioArmTx_pdoaValid : ((radioArmTx s m e).2).pdoaValid = s.pdoaValid := by cases m <;> rfl
@[simp] theorem radioArmTx_durValid : ((radioArmTx s m e).2).durValid = s.durValid := by cases m <;> rfl
@[simp] theorem radioArmTx_wrapFlag : ((radioArmTx s m e).2).wrapFlag = s.wrapFlag := by cases m <;> rfl
@[simp] theorem radioArmTx_cmdFault : ((radioArmTx s m e).2).cmdFault = s.cmdFault := by cases m <;> rfl
@[simp] theorem radioArmTx_firstCycle : ((radioArmTx s m e).2).firstCycle = s.firstCycle := by cases m <;> rfl
@[simp] theorem radioArmTx_seq : ((radioArmTx s m e).2).seq = s.seq := by cases m <;> rfl
@[simp] theorem radioArmTx_mat : ((radioArmTx s m e).2).mat = s.mat := by cases m <;> rfl
@[simp] theorem radioArmTx_pend : ((radioArmTx s m e).2).pend = s.pend := by cases m <;> rfl
@[simp] theorem radioArmTx_errCnt : ((radioArmTx s m e).2).errCnt = s.errCnt := by cases m <;> rfl
@[simp] theorem radioArmTx_rxErrMask : ((radioArmTx s m e).2).rxErrMask = s.rxErrMask := by cases m <;> rfl
@[simp] theorem radioArmTx_fatalCode : ((radioArmTx s m e).2).fatalCode = s.fatalCode := by cases m <;> rfl
@[simp] theorem radioArmTx_mem : ((radioArmTx s m e).2).mem = s.mem := by cases m <;> rfl
@[simp] theorem radioArmTx_txLen : ((radioArmTx s m e).2).txLen = s.txLen := by cases m <;> rfl
@[simp] theorem radioArmTx_rxLen : ((radioArmTx s m e).2).rxLen = s.rxLen := by cases m <;> rfl
@[simp] theorem radioArmTx_env_inputs : ((radioArmTx s m e).2).env.inputs = s.env.inputs := by cases m <;> rfl
@[simp] theorem radioArmTx_env_sink : ((radioArmTx s m e).2).env.sink = s.env.sink := by cases m <;> rfl
@[simp] theorem radioArmTx_env_readBack : ((radioArmTx s m e).2).env.readBack = s.env.readBack := by cases m <;> rfl
end radioArmTx

section radioClearStatus
variable (m : Word)
@[simp] theorem radioClearStatus_cfg : (radioClearStatus s m).cfg = s.cfg := rfl
@[simp] theorem radioClearStatus_phase : (radioClearStatus s m).phase = s.phase := rfl
@[simp] theorem radioClearStatus_auto : (radioClearStatus s m).auto = s.auto := rfl
@[simp] theorem radioClearStatus_ts : (radioClearStatus s m).ts = s.ts := rfl
@[simp] theorem radioClearStatus_kRaw : (radioClearStatus s m).kRaw = s.kRaw := rfl
@[simp] theorem radioClearStatus_pdoaRaw : (radioClearStatus s m).pdoaRaw = s.pdoaRaw := rfl
@[simp] theorem radioClearStatus_dlyTime : (radioClearStatus s m).dlyTime = s.dlyTime := rfl
@[simp] theorem radioClearStatus_tofDtu : (radioClearStatus s m).tofDtu = s.tofDtu := rfl
@[simp] theorem radioClearStatus_tofS : (radioClearStatus s m).tofS = s.tofS := rfl
@[simp] theorem radioClearStatus_distM : (radioClearStatus s m).distM = s.distM := rfl
@[simp] theorem radioClearStatus_durMs : (radioClearStatus s m).durMs = s.durMs := rfl
@[simp] theorem radioClearStatus_pdoaDeg : (radioClearStatus s m).pdoaDeg = s.pdoaDeg := rfl
@[simp] theorem radioClearStatus_vok : (radioClearStatus s m).vok = s.vok := rfl
@[simp] theorem radioClearStatus_resultValid : (radioClearStatus s m).resultValid = s.resultValid := rfl
@[simp] theorem radioClearStatus_pdoaValid : (radioClearStatus s m).pdoaValid = s.pdoaValid := rfl
@[simp] theorem radioClearStatus_durValid : (radioClearStatus s m).durValid = s.durValid := rfl
@[simp] theorem radioClearStatus_wrapFlag : (radioClearStatus s m).wrapFlag = s.wrapFlag := rfl
@[simp] theorem radioClearStatus_cmdFault : (radioClearStatus s m).cmdFault = s.cmdFault := rfl
@[simp] theorem radioClearStatus_firstCycle : (radioClearStatus s m).firstCycle = s.firstCycle := rfl
@[simp] theorem radioClearStatus_seq : (radioClearStatus s m).seq = s.seq := rfl
@[simp] theorem radioClearStatus_mat : (radioClearStatus s m).mat = s.mat := rfl
@[simp] theorem radioClearStatus_pend : (radioClearStatus s m).pend = s.pend := rfl
@[simp] theorem radioClearStatus_errCnt : (radioClearStatus s m).errCnt = s.errCnt := rfl
@[simp] theorem radioClearStatus_rxErrMask : (radioClearStatus s m).rxErrMask = s.rxErrMask := rfl
@[simp] theorem radioClearStatus_fatalCode : (radioClearStatus s m).fatalCode = s.fatalCode := rfl
@[simp] theorem radioClearStatus_mem : (radioClearStatus s m).mem = s.mem := rfl
@[simp] theorem radioClearStatus_txLen : (radioClearStatus s m).txLen = s.txLen := rfl
@[simp] theorem radioClearStatus_rxLen : (radioClearStatus s m).rxLen = s.rxLen := rfl
@[simp] theorem radioClearStatus_env_inputs : (radioClearStatus s m).env.inputs = s.env.inputs := rfl
@[simp] theorem radioClearStatus_env_sink : (radioClearStatus s m).env.sink = s.env.sink := rfl
@[simp] theorem radioClearStatus_env_readBack : (radioClearStatus s m).env.readBack = s.env.readBack := rfl
end radioClearStatus

section radioReadSts
@[simp] theorem radioReadSts_cfg : ((radioReadSts s).2).cfg = s.cfg := rfl
@[simp] theorem radioReadSts_phase : ((radioReadSts s).2).phase = s.phase := rfl
@[simp] theorem radioReadSts_auto : ((radioReadSts s).2).auto = s.auto := rfl
@[simp] theorem radioReadSts_ts : ((radioReadSts s).2).ts = s.ts := rfl
@[simp] theorem radioReadSts_kRaw : ((radioReadSts s).2).kRaw = s.kRaw := rfl
@[simp] theorem radioReadSts_pdoaRaw : ((radioReadSts s).2).pdoaRaw = s.pdoaRaw := rfl
@[simp] theorem radioReadSts_dlyTime : ((radioReadSts s).2).dlyTime = s.dlyTime := rfl
@[simp] theorem radioReadSts_tofDtu : ((radioReadSts s).2).tofDtu = s.tofDtu := rfl
@[simp] theorem radioReadSts_tofS : ((radioReadSts s).2).tofS = s.tofS := rfl
@[simp] theorem radioReadSts_distM : ((radioReadSts s).2).distM = s.distM := rfl
@[simp] theorem radioReadSts_durMs : ((radioReadSts s).2).durMs = s.durMs := rfl
@[simp] theorem radioReadSts_pdoaDeg : ((radioReadSts s).2).pdoaDeg = s.pdoaDeg := rfl
@[simp] theorem radioReadSts_vok : ((radioReadSts s).2).vok = s.vok := rfl
@[simp] theorem radioReadSts_resultValid : ((radioReadSts s).2).resultValid = s.resultValid := rfl
@[simp] theorem radioReadSts_pdoaValid : ((radioReadSts s).2).pdoaValid = s.pdoaValid := rfl
@[simp] theorem radioReadSts_durValid : ((radioReadSts s).2).durValid = s.durValid := rfl
@[simp] theorem radioReadSts_wrapFlag : ((radioReadSts s).2).wrapFlag = s.wrapFlag := rfl
@[simp] theorem radioReadSts_cmdFault : ((radioReadSts s).2).cmdFault = s.cmdFault := rfl
@[simp] theorem radioReadSts_firstCycle : ((radioReadSts s).2).firstCycle = s.firstCycle := rfl
@[simp] theorem radioReadSts_seq : ((radioReadSts s).2).seq = s.seq := rfl
@[simp] theorem radioReadSts_mat : ((radioReadSts s).2).mat = s.mat := rfl
@[simp] theorem radioReadSts_pend : ((radioReadSts s).2).pend = s.pend := rfl
@[simp] theorem radioReadSts_errCnt : ((radioReadSts s).2).errCnt = s.errCnt := rfl
@[simp] theorem radioReadSts_rxErrMask : ((radioReadSts s).2).rxErrMask = s.rxErrMask := rfl
@[simp] theorem radioReadSts_fatalCode : ((radioReadSts s).2).fatalCode = s.fatalCode := rfl
@[simp] theorem radioReadSts_mem : ((radioReadSts s).2).mem = s.mem := rfl
@[simp] theorem radioReadSts_txLen : ((radioReadSts s).2).txLen = s.txLen := rfl
@[simp] theorem radioReadSts_rxLen : ((radioReadSts s).2).rxLen = s.rxLen := rfl
@[simp] theorem radioReadSts_env_inputs : ((radioReadSts s).2).env.inputs = s.env.inputs := rfl
@[simp] theorem radioReadSts_env_sink : ((radioReadSts s).2).env.sink = s.env.sink := rfl
@[simp] theorem radioReadSts_env_readBack : ((radioReadSts s).2).env.readBack = s.env.readBack := rfl
end radioReadSts

section radioReadFrame
@[simp] theorem radioReadFrame_cfg : (radioReadFrame s).cfg = s.cfg := by simp [radioReadFrame]
@[simp] theorem radioReadFrame_phase : (radioReadFrame s).phase = s.phase := by simp [radioReadFrame]
@[simp] theorem radioReadFrame_auto : (radioReadFrame s).auto = s.auto := by simp [radioReadFrame]
@[simp] theorem radioReadFrame_ts : (radioReadFrame s).ts = s.ts := by simp [radioReadFrame]
@[simp] theorem radioReadFrame_kRaw : (radioReadFrame s).kRaw = s.kRaw := by simp [radioReadFrame]
@[simp] theorem radioReadFrame_pdoaRaw : (radioReadFrame s).pdoaRaw = s.pdoaRaw := by simp [radioReadFrame]
@[simp] theorem radioReadFrame_dlyTime : (radioReadFrame s).dlyTime = s.dlyTime := by simp [radioReadFrame]
@[simp] theorem radioReadFrame_tofDtu : (radioReadFrame s).tofDtu = s.tofDtu := by simp [radioReadFrame]
@[simp] theorem radioReadFrame_tofS : (radioReadFrame s).tofS = s.tofS := by simp [radioReadFrame]
@[simp] theorem radioReadFrame_distM : (radioReadFrame s).distM = s.distM := by simp [radioReadFrame]
@[simp] theorem radioReadFrame_durMs : (radioReadFrame s).durMs = s.durMs := by simp [radioReadFrame]
@[simp] theorem radioReadFrame_pdoaDeg : (radioReadFrame s).pdoaDeg = s.pdoaDeg := by simp [radioReadFrame]
@[simp] theorem radioReadFrame_vok : (radioReadFrame s).vok = s.vok := by simp [radioReadFrame]
@[simp] theorem radioReadFrame_resultValid : (radioReadFrame s).resultValid = s.resultValid := by simp [radioReadFrame]
@[simp] theorem radioReadFrame_pdoaValid : (radioReadFrame s).pdoaValid = s.pdoaValid := by simp [radioReadFrame]
@[simp] theorem radioReadFrame_durValid : (radioReadFrame s).durValid = s.durValid := by simp [radioReadFrame]
@[simp] theorem radioReadFrame_wrapFlag : (radioReadFrame s).wrapFlag = s.wrapFlag := by simp [radioReadFrame]
@[simp] theorem radioReadFrame_cmdFault : (radioReadFrame s).cmdFault = s.cmdFault := by simp [radioReadFrame]
@[simp] theorem radioReadFrame_firstCycle : (radioReadFrame s).firstCycle = s.firstCycle := by simp [radioReadFrame]
@[simp] theorem radioReadFrame_seq : (radioReadFrame s).seq = s.seq := by simp [radioReadFrame]
@[simp] theorem radioReadFrame_mat : (radioReadFrame s).mat = s.mat := by simp [radioReadFrame]
@[simp] theorem radioReadFrame_pend : (radioReadFrame s).pend = s.pend := by simp [radioReadFrame]
@[simp] theorem radioReadFrame_errCnt : (radioReadFrame s).errCnt = s.errCnt := by simp [radioReadFrame]
@[simp] theorem radioReadFrame_rxErrMask : (radioReadFrame s).rxErrMask = s.rxErrMask := by simp [radioReadFrame]
@[simp] theorem radioReadFrame_fatalCode : (radioReadFrame s).fatalCode = s.fatalCode := by simp [radioReadFrame]
@[simp] theorem radioReadFrame_txLen : (radioReadFrame s).txLen = s.txLen := by simp [radioReadFrame]
@[simp] theorem radioReadFrame_env_inputs : (radioReadFrame s).env.inputs = s.env.inputs := by simp [radioReadFrame]
@[simp] theorem radioReadFrame_env_sink : (radioReadFrame s).env.sink = s.env.sink := by simp [radioReadFrame]
@[simp] theorem radioReadFrame_env_readBack : (radioReadFrame s).env.readBack = s.env.readBack := by simp [radioReadFrame]
end radioReadFrame

section radioReadTxTime
@[simp] theorem radioReadTxTime_cfg : ((radioReadTxTime s).2).cfg = s.cfg := rfl
@[simp] theorem radioReadTxTime_phase : ((radioReadTxTime s).2).phase = s.phase := rfl
@[simp] theorem radioReadTxTime_auto : ((radioReadTxTime s).2).auto = s.auto := rfl
@[simp] theorem radioReadTxTime_ts : ((radioReadTxTime s).2).ts = s.ts := rfl
@[simp] theorem radioReadTxTime_kRaw : ((radioReadTxTime s).2).kRaw = s.kRaw := rfl
@[simp] theorem radioReadTxTime_pdoaRaw : ((radioReadTxTime s).2).pdoaRaw = s.pdoaRaw := rfl
@[simp] theorem radioReadTxTime_dlyTime : ((radioReadTxTime s).2).dlyTime = s.dlyTime := rfl
@[simp] theorem radioReadTxTime_tofDtu : ((radioReadTxTime s).2).tofDtu = s.tofDtu := rfl
@[simp] theorem radioReadTxTime_tofS : ((radioReadTxTime s).2).tofS = s.tofS := rfl
@[simp] theorem radioReadTxTime_distM : ((radioReadTxTime s).2).distM = s.distM := rfl
@[simp] theorem radioReadTxTime_durMs : ((radioReadTxTime s).2).durMs = s.durMs := rfl
@[simp] theorem radioReadTxTime_pdoaDeg : ((radioReadTxTime s).2).pdoaDeg = s.pdoaDeg := rfl
@[simp] theorem radioReadTxTime_vok : ((radioReadTxTime s).2).vok = s.vok := rfl
@[simp] theorem radioReadTxTime_resultValid : ((radioReadTxTime s).2).resultValid = s.resultValid := rfl
@[simp] theorem radioReadTxTime_pdoaValid : ((radioReadTxTime s).2).pdoaValid = s.pdoaValid := rfl
@[simp] theorem radioReadTxTime_durValid : ((radioReadTxTime s).2).durValid = s.durValid := rfl
@[simp] theorem radioReadTxTime_wrapFlag : ((radioReadTxTime s).2).wrapFlag = s.wrapFlag := rfl
@[simp] theorem radioReadTxTime_cmdFault : ((radioReadTxTime s).2).cmdFault = s.cmdFault := rfl
@[simp] theorem radioReadTxTime_firstCycle : ((radioReadTxTime s).2).firstCycle = s.firstCycle := rfl
@[simp] theorem radioReadTxTime_seq : ((radioReadTxTime s).2).seq = s.seq := rfl
@[simp] theorem radioReadTxTime_mat : ((radioReadTxTime s).2).mat = s.mat := rfl
@[simp] theorem radioReadTxTime_pend : ((radioReadTxTime s).2).pend = s.pend := rfl
@[simp] theorem radioReadTxTime_errCnt : ((radioReadTxTime s).2).errCnt = s.errCnt := rfl
@[simp] theorem radioReadTxTime_rxErrMask : ((radioReadTxTime s).2).rxErrMask = s.rxErrMask := rfl
@[simp] theorem radioReadTxTime_fatalCode : ((radioReadTxTime s).2).fatalCode = s.fatalCode := rfl
@[simp] theorem radioReadTxTime_mem : ((radioReadTxTime s).2).mem = s.mem := rfl
@[simp] theorem radioReadTxTime_txLen : ((radioReadTxTime s).2).txLen = s.txLen := rfl
@[simp] theorem radioReadTxTime_rxLen : ((radioReadTxTime s).2).rxLen = s.rxLen := rfl
@[simp] theorem radioReadTxTime_env_inputs : ((radioReadTxTime s).2).env.inputs = s.env.inputs := rfl
@[simp] theorem radioReadTxTime_env_sink : ((radioReadTxTime s).2).env.sink = s.env.sink := rfl
@[simp] theorem radioReadTxTime_env_readBack : ((radioReadTxTime s).2).env.readBack = s.env.readBack := rfl
end radioReadTxTime

section radioReadRxTime
@[simp] theorem radioReadRxTime_cfg : ((radioReadRxTime s).2).cfg = s.cfg := rfl
@[simp] theorem radioReadRxTime_phase : ((radioReadRxTime s).2).phase = s.phase := rfl
@[simp] theorem radioReadRxTime_auto : ((radioReadRxTime s).2).auto = s.auto := rfl
@[simp] theorem radioReadRxTime_ts : ((radioReadRxTime s).2).ts = s.ts := rfl
@[simp] theorem radioReadRxTime_kRaw : ((radioReadRxTime s).2).kRaw = s.kRaw := rfl
@[simp] theorem radioReadRxTime_pdoaRaw : ((radioReadRxTime s).2).pdoaRaw = s.pdoaRaw := rfl
@[simp] theorem radioReadRxTime_dlyTime : ((radioReadRxTime s).2).dlyTime = s.dlyTime := rfl
@[simp] theorem radioReadRxTime_tofDtu : ((radioReadRxTime s).2).tofDtu = s.tofDtu := rfl
@[simp] theorem radioReadRxTime_tofS : ((radioReadRxTime s).2).tofS = s.tofS := rfl
@[simp] theorem radioReadRxTime_distM : ((radioReadRxTime s).2).distM = s.distM := rfl
@[simp] theorem radioReadRxTime_durMs : ((radioReadRxTime s).2).durMs = s.durMs := rfl
@[simp] theorem radioReadRxTime_pdoaDeg : ((radioReadRxTime s).2).pdoaDeg = s.pdoaDeg := rfl
@[simp] theorem radioReadRxTime_vok : ((radioReadRxTime s).2).vok = s.vok := rfl
@[simp] theorem radioReadRxTime_resultValid : ((radioReadRxTime s).2).resultValid = s.resultValid := rfl
@[simp] theorem radioReadRxTime_pdoaValid : ((radioReadRxTime s).2).pdoaValid = s.pdoaValid := rfl
@[simp] theorem radioReadRxTime_durValid : ((radioReadRxTime s).2).durValid = s.durValid := rfl
@[simp] theorem radioReadRxTime_wrapFlag : ((radioReadRxTime s).2).wrapFlag = s.wrapFlag := rfl
@[simp] theorem radioReadRxTime_cmdFault : ((radioReadRxTime s).2).cmdFault = s.cmdFault := rfl
@[simp] theorem radioReadRxTime_firstCycle : ((radioReadRxTime s).2).firstCycle = s.firstCycle := rfl
@[simp] theorem radioReadRxTime_seq : ((radioReadRxTime s).2).seq = s.seq := rfl
@[simp] theorem radioReadRxTime_mat : ((radioReadRxTime s).2).mat = s.mat := rfl
@[simp] theorem radioReadRxTime_pend : ((radioReadRxTime s).2).pend = s.pend := rfl
@[simp] theorem radioReadRxTime_errCnt : ((radioReadRxTime s).2).errCnt = s.errCnt := rfl
@[simp] theorem radioReadRxTime_rxErrMask : ((radioReadRxTime s).2).rxErrMask = s.rxErrMask := rfl
@[simp] theorem radioReadRxTime_fatalCode : ((radioReadRxTime s).2).fatalCode = s.fatalCode := rfl
@[simp] theorem radioReadRxTime_mem : ((radioReadRxTime s).2).mem = s.mem := rfl
@[simp] theorem radioReadRxTime_txLen : ((radioReadRxTime s).2).txLen = s.txLen := rfl
@[simp] theorem radioReadRxTime_rxLen : ((radioReadRxTime s).2).rxLen = s.rxLen := rfl
@[simp] theorem radioReadRxTime_env_inputs : ((radioReadRxTime s).2).env.inputs = s.env.inputs := rfl
@[simp] theorem radioReadRxTime_env_sink : ((radioReadRxTime s).2).env.sink = s.env.sink := rfl
@[simp] theorem radioReadRxTime_env_readBack : ((radioReadRxTime s).2).env.readBack = s.env.readBack := rfl
end radioReadRxTime

section radioWriteTxFrame
@[simp] theorem radioWriteTxFrame_cfg : (radioWriteTxFrame s).cfg = s.cfg := rfl
@[simp] theorem radioWriteTxFrame_phase : (radioWriteTxFrame s).phase = s.phase := rfl
@[simp] theorem radioWriteTxFrame_auto : (radioWriteTxFrame s).auto = s.auto := rfl
@[simp] theorem radioWriteTxFrame_ts : (radioWriteTxFrame s).ts = s.ts := rfl
@[simp] theorem radioWriteTxFrame_kRaw : (radioWriteTxFrame s).kRaw = s.kRaw := rfl
@[simp] theorem radioWriteTxFrame_pdoaRaw : (radioWriteTxFrame s).pdoaRaw = s.pdoaRaw := rfl
@[simp] theorem radioWriteTxFrame_dlyTime : (radioWriteTxFrame s).dlyTime = s.dlyTime := rfl
@[simp] theorem radioWriteTxFrame_tofDtu : (radioWriteTxFrame s).tofDtu = s.tofDtu := rfl
@[simp] theorem radioWriteTxFrame_tofS : (radioWriteTxFrame s).tofS = s.tofS := rfl
@[simp] theorem radioWriteTxFrame_distM : (radioWriteTxFrame s).distM = s.distM := rfl
@[simp] theorem radioWriteTxFrame_durMs : (radioWriteTxFrame s).durMs = s.durMs := rfl
@[simp] theorem radioWriteTxFrame_pdoaDeg : (radioWriteTxFrame s).pdoaDeg = s.pdoaDeg := rfl
@[simp] theorem radioWriteTxFrame_vok : (radioWriteTxFrame s).vok = s.vok := rfl
@[simp] theorem radioWriteTxFrame_resultValid : (radioWriteTxFrame s).resultValid = s.resultValid := rfl
@[simp] theorem radioWriteTxFrame_pdoaValid : (radioWriteTxFrame s).pdoaValid = s.pdoaValid := rfl
@[simp] theorem radioWriteTxFrame_durValid : (radioWriteTxFrame s).durValid = s.durValid := rfl
@[simp] theorem radioWriteTxFrame_wrapFlag : (radioWriteTxFrame s).wrapFlag = s.wrapFlag := rfl
@[simp] theorem radioWriteTxFrame_cmdFault : (radioWriteTxFrame s).cmdFault = s.cmdFault := rfl
@[simp] theorem radioWriteTxFrame_firstCycle : (radioWriteTxFrame s).firstCycle = s.firstCycle := rfl
@[simp] theorem radioWriteTxFrame_seq : (radioWriteTxFrame s).seq = s.seq := rfl
@[simp] theorem radioWriteTxFrame_mat : (radioWriteTxFrame s).mat = s.mat := rfl
@[simp] theorem radioWriteTxFrame_pend : (radioWriteTxFrame s).pend = s.pend := rfl
@[simp] theorem radioWriteTxFrame_errCnt : (radioWriteTxFrame s).errCnt = s.errCnt := rfl
@[simp] theorem radioWriteTxFrame_rxErrMask : (radioWriteTxFrame s).rxErrMask = s.rxErrMask := rfl
@[simp] theorem radioWriteTxFrame_fatalCode : (radioWriteTxFrame s).fatalCode = s.fatalCode := rfl
@[simp] theorem radioWriteTxFrame_mem : (radioWriteTxFrame s).mem = s.mem := rfl
@[simp] theorem radioWriteTxFrame_txLen : (radioWriteTxFrame s).txLen = s.txLen := rfl
@[simp] theorem radioWriteTxFrame_rxLen : (radioWriteTxFrame s).rxLen = s.rxLen := rfl
@[simp] theorem radioWriteTxFrame_env_inputs : (radioWriteTxFrame s).env.inputs = s.env.inputs := rfl
@[simp] theorem radioWriteTxFrame_env_sink : (radioWriteTxFrame s).env.sink = s.env.sink := rfl
@[simp] theorem radioWriteTxFrame_env_readBack : (radioWriteTxFrame s).env.readBack = s.env.readBack := rfl
end radioWriteTxFrame

section radioSetStsKey
@[simp] theorem radioSetStsKey_cfg : (radioSetStsKey s).cfg = s.cfg := rfl
@[simp] theorem radioSetStsKey_phase : (radioSetStsKey s).phase = s.phase := rfl
@[simp] theorem radioSetStsKey_auto : (radioSetStsKey s).auto = s.auto := rfl
@[simp] theorem radioSetStsKey_ts : (radioSetStsKey s).ts = s.ts := rfl
@[simp] theorem radioSetStsKey_kRaw : (radioSetStsKey s).kRaw = s.kRaw := rfl
@[simp] theorem radioSetStsKey_pdoaRaw : (radioSetStsKey s).pdoaRaw = s.pdoaRaw := rfl
@[simp] theorem radioSetStsKey_dlyTime : (radioSetStsKey s).dlyTime = s.dlyTime := rfl
@[simp] theorem radioSetStsKey_tofDtu : (radioSetStsKey s).tofDtu = s.tofDtu := rfl
@[simp] theorem radioSetStsKey_tofS : (radioSetStsKey s).tofS = s.tofS := rfl
@[simp] theorem radioSetStsKey_distM : (radioSetStsKey s).distM = s.distM := rfl
@[simp] theorem radioSetStsKey_durMs : (radioSetStsKey s).durMs = s.durMs := rfl
@[simp] theorem radioSetStsKey_pdoaDeg : (radioSetStsKey s).pdoaDeg = s.pdoaDeg := rfl
@[simp] theorem radioSetStsKey_vok : (radioSetStsKey s).vok = s.vok := rfl
@[simp] theorem radioSetStsKey_resultValid : (radioSetStsKey s).resultValid = s.resultValid := rfl
@[simp] theorem radioSetStsKey_pdoaValid : (radioSetStsKey s).pdoaValid = s.pdoaValid := rfl
@[simp] theorem radioSetStsKey_durValid : (radioSetStsKey s).durValid = s.durValid := rfl
@[simp] theorem radioSetStsKey_wrapFlag : (radioSetStsKey s).wrapFlag = s.wrapFlag := rfl
@[simp] theorem radioSetStsKey_cmdFault : (radioSetStsKey s).cmdFault = s.cmdFault := rfl
@[simp] theorem radioSetStsKey_firstCycle : (radioSetStsKey s).firstCycle = s.firstCycle := rfl
@[simp] theorem radioSetStsKey_seq : (radioSetStsKey s).seq = s.seq := rfl
@[simp] theorem radioSetStsKey_mat : (radioSetStsKey s).mat = s.mat := rfl
@[simp] theorem radioSetStsKey_pend : (radioSetStsKey s).pend = s.pend := rfl
@[simp] theorem radioSetStsKey_errCnt : (radioSetStsKey s).errCnt = s.errCnt := rfl
@[simp] theorem radioSetStsKey_rxErrMask : (radioSetStsKey s).rxErrMask = s.rxErrMask := rfl
@[simp] theorem radioSetStsKey_fatalCode : (radioSetStsKey s).fatalCode = s.fatalCode := rfl
@[simp] theorem radioSetStsKey_mem : (radioSetStsKey s).mem = s.mem := rfl
@[simp] theorem radioSetStsKey_txLen : (radioSetStsKey s).txLen = s.txLen := rfl
@[simp] theorem radioSetStsKey_rxLen : (radioSetStsKey s).rxLen = s.rxLen := rfl
@[simp] theorem radioSetStsKey_env_inputs : (radioSetStsKey s).env.inputs = s.env.inputs := rfl
@[simp] theorem radioSetStsKey_env_sink : (radioSetStsKey s).env.sink = s.env.sink := rfl
@[simp] theorem radioSetStsKey_env_readBack : (radioSetStsKey s).env.readBack = s.env.readBack := rfl
end radioSetStsKey

section radioSetStsIv
@[simp] theorem radioSetStsIv_cfg : (radioSetStsIv s).cfg = s.cfg := rfl
@[simp] theorem radioSetStsIv_phase : (radioSetStsIv s).phase = s.phase := rfl
@[simp] theorem radioSetStsIv_auto : (radioSetStsIv s).auto = s.auto := rfl
@[simp] theorem radioSetStsIv_ts : (radioSetStsIv s).ts = s.ts := rfl
@[simp] theorem radioSetStsIv_kRaw : (radioSetStsIv s).kRaw = s.kRaw := rfl
@[simp] theorem radioSetStsIv_pdoaRaw : (radioSetStsIv s).pdoaRaw = s.pdoaRaw := rfl
@[simp] theorem radioSetStsIv_dlyTime : (radioSetStsIv s).dlyTime = s.dlyTime := rfl
@[simp] theorem radioSetStsIv_tofDtu : (radioSetStsIv s).tofDtu = s.tofDtu := rfl
@[simp] theorem radioSetStsIv_tofS : (radioSetStsIv s).tofS = s.tofS := rfl
@[simp] theorem radioSetStsIv_distM : (radioSetStsIv s).distM = s.distM := rfl
@[simp] theorem radioSetStsIv_durMs : (radioSetStsIv s).durMs = s.durMs := rfl
@[simp] theorem radioSetStsIv_pdoaDeg : (radioSetStsIv s).pdoaDeg = s.pdoaDeg := rfl
@[simp] theorem radioSetStsIv_vok : (radioSetStsIv s).vok = s.vok := rfl
@[simp] theorem radioSetStsIv_resultValid : (radioSetStsIv s).resultValid = s.resultValid := rfl
@[simp] theorem radioSetStsIv_pdoaValid : (radioSetStsIv s).pdoaValid = s.pdoaValid := rfl
@[simp] theorem radioSetStsIv_durValid : (radioSetStsIv s).durValid = s.durValid := rfl
@[simp] theorem radioSetStsIv_wrapFlag : (radioSetStsIv s).wrapFlag = s.wrapFlag := rfl
@[simp] theorem radioSetStsIv_cmdFault : (radioSetStsIv s).cmdFault = s.cmdFault := rfl
@[simp] theorem radioSetStsIv_firstCycle : (radioSetStsIv s).firstCycle = s.firstCycle := rfl
@[simp] theorem radioSetStsIv_seq : (radioSetStsIv s).seq = s.seq := rfl
@[simp] theorem radioSetStsIv_mat : (radioSetStsIv s).mat = s.mat := rfl
@[simp] theorem radioSetStsIv_pend : (radioSetStsIv s).pend = s.pend := rfl
@[simp] theorem radioSetStsIv_errCnt : (radioSetStsIv s).errCnt = s.errCnt := rfl
@[simp] theorem radioSetStsIv_rxErrMask : (radioSetStsIv s).rxErrMask = s.rxErrMask := rfl
@[simp] theorem radioSetStsIv_fatalCode : (radioSetStsIv s).fatalCode = s.fatalCode := rfl
@[simp] theorem radioSetStsIv_mem : (radioSetStsIv s).mem = s.mem := rfl
@[simp] theorem radioSetStsIv_txLen : (radioSetStsIv s).txLen = s.txLen := rfl
@[simp] theorem radioSetStsIv_rxLen : (radioSetStsIv s).rxLen = s.rxLen := rfl
@[simp] theorem radioSetStsIv_env_inputs : (radioSetStsIv s).env.inputs = s.env.inputs := rfl
@[simp] theorem radioSetStsIv_env_sink : (radioSetStsIv s).env.sink = s.env.sink := rfl
@[simp] theorem radioSetStsIv_env_readBack : (radioSetStsIv s).env.readBack = s.env.readBack := rfl
end radioSetStsIv

section radioSetStsIvLow
@[simp] theorem radioSetStsIvLow_cfg : (radioSetStsIvLow s).cfg = s.cfg := rfl
@[simp] theorem radioSetStsIvLow_phase : (radioSetStsIvLow s).phase = s.phase := rfl
@[simp] theorem radioSetStsIvLow_auto : (radioSetStsIvLow s).auto = s.auto := rfl
@[simp] theorem radioSetStsIvLow_ts : (radioSetStsIvLow s).ts = s.ts := rfl
@[simp] theorem radioSetStsIvLow_kRaw : (radioSetStsIvLow s).kRaw = s.kRaw := rfl
@[simp] theorem radioSetStsIvLow_pdoaRaw : (radioSetStsIvLow s).pdoaRaw = s.pdoaRaw := rfl
@[simp] theorem radioSetStsIvLow_dlyTime : (radioSetStsIvLow s).dlyTime = s.dlyTime := rfl
@[simp] theorem radioSetStsIvLow_tofDtu : (radioSetStsIvLow s).tofDtu = s.tofDtu := rfl
@[simp] theorem radioSetStsIvLow_tofS : (radioSetStsIvLow s).tofS = s.tofS := rfl
@[simp] theorem radioSetStsIvLow_distM : (radioSetStsIvLow s).distM = s.distM := rfl
@[simp] theorem radioSetStsIvLow_durMs : (radioSetStsIvLow s).durMs = s.durMs := rfl
@[simp] theorem radioSetStsIvLow_pdoaDeg : (radioSetStsIvLow s).pdoaDeg = s.pdoaDeg := rfl
@[simp] theorem radioSetStsIvLow_vok : (radioSetStsIvLow s).vok = s.vok := rfl
@[simp] theorem radioSetStsIvLow_resultValid : (radioSetStsIvLow s).resultValid = s.resultValid := rfl
@[simp] theorem radioSetStsIvLow_pdoaValid : (radioSetStsIvLow s).pdoaValid = s.pdoaValid := rfl
@[simp] theorem radioSetStsIvLow_durValid : (radioSetStsIvLow s).durValid = s.durValid := rfl
@[simp] theorem radioSetStsIvLow_wrapFlag : (radioSetStsIvLow s).wrapFlag = s.wrapFlag := rfl
@[simp] theorem radioSetStsIvLow_cmdFault : (radioSetStsIvLow s).cmdFault = s.cmdFault := rfl
@[simp] theorem radioSetStsIvLow_firstCycle : (radioSetStsIvLow s).firstCycle = s.firstCycle := rfl
@[simp] theorem radioSetStsIvLow_seq : (radioSetStsIvLow s).seq = s.seq := rfl
@[simp] theorem radioSetStsIvLow_mat : (radioSetStsIvLow s).mat = s.mat := rfl
@[simp] theorem radioSetStsIvLow_pend : (radioSetStsIvLow s).pend = s.pend := rfl
@[simp] theorem radioSetStsIvLow_errCnt : (radioSetStsIvLow s).errCnt = s.errCnt := rfl
@[simp] theorem radioSetStsIvLow_rxErrMask : (radioSetStsIvLow s).rxErrMask = s.rxErrMask := rfl
@[simp] theorem radioSetStsIvLow_fatalCode : (radioSetStsIvLow s).fatalCode = s.fatalCode := rfl
@[simp] theorem radioSetStsIvLow_mem : (radioSetStsIvLow s).mem = s.mem := rfl
@[simp] theorem radioSetStsIvLow_txLen : (radioSetStsIvLow s).txLen = s.txLen := rfl
@[simp] theorem radioSetStsIvLow_rxLen : (radioSetStsIvLow s).rxLen = s.rxLen := rfl
@[simp] theorem radioSetStsIvLow_env_inputs : (radioSetStsIvLow s).env.inputs = s.env.inputs := rfl
@[simp] theorem radioSetStsIvLow_env_sink : (radioSetStsIvLow s).env.sink = s.env.sink := rfl
@[simp] theorem radioSetStsIvLow_env_readBack : (radioSetStsIvLow s).env.readBack = s.env.readBack := rfl
end radioSetStsIvLow

section radioReadClockOffset
@[simp] theorem radioReadClockOffset_cfg : ((radioReadClockOffset s).2).cfg = s.cfg := rfl
@[simp] theorem radioReadClockOffset_phase : ((radioReadClockOffset s).2).phase = s.phase := rfl
@[simp] theorem radioReadClockOffset_auto : ((radioReadClockOffset s).2).auto = s.auto := rfl
@[simp] theorem radioReadClockOffset_ts : ((radioReadClockOffset s).2).ts = s.ts := rfl
@[simp] theorem radioReadClockOffset_kRaw : ((radioReadClockOffset s).2).kRaw = s.kRaw := rfl
@[simp] theorem radioReadClockOffset_pdoaRaw : ((radioReadClockOffset s).2).pdoaRaw = s.pdoaRaw := rfl
@[simp] theorem radioReadClockOffset_dlyTime : ((radioReadClockOffset s).2).dlyTime = s.dlyTime := rfl
@[simp] theorem radioReadClockOffset_tofDtu : ((radioReadClockOffset s).2).tofDtu = s.tofDtu := rfl
@[simp] theorem radioReadClockOffset_tofS : ((radioReadClockOffset s).2).tofS = s.tofS := rfl
@[simp] theorem radioReadClockOffset_distM : ((radioReadClockOffset s).2).distM = s.distM := rfl
@[simp] theorem radioReadClockOffset_durMs : ((radioReadClockOffset s).2).durMs = s.durMs := rfl
@[simp] theorem radioReadClockOffset_pdoaDeg : ((radioReadClockOffset s).2).pdoaDeg = s.pdoaDeg := rfl
@[simp] theorem radioReadClockOffset_vok : ((radioReadClockOffset s).2).vok = s.vok := rfl
@[simp] theorem radioReadClockOffset_resultValid : ((radioReadClockOffset s).2).resultValid = s.resultValid := rfl
@[simp] theorem radioReadClockOffset_pdoaValid : ((radioReadClockOffset s).2).pdoaValid = s.pdoaValid := rfl
@[simp] theorem radioReadClockOffset_durValid : ((radioReadClockOffset s).2).durValid = s.durValid := rfl
@[simp] theorem radioReadClockOffset_wrapFlag : ((radioReadClockOffset s).2).wrapFlag = s.wrapFlag := rfl
@[simp] theorem radioReadClockOffset_cmdFault : ((radioReadClockOffset s).2).cmdFault = s.cmdFault := rfl
@[simp] theorem radioReadClockOffset_firstCycle : ((radioReadClockOffset s).2).firstCycle = s.firstCycle := rfl
@[simp] theorem radioReadClockOffset_seq : ((radioReadClockOffset s).2).seq = s.seq := rfl
@[simp] theorem radioReadClockOffset_mat : ((radioReadClockOffset s).2).mat = s.mat := rfl
@[simp] theorem radioReadClockOffset_pend : ((radioReadClockOffset s).2).pend = s.pend := rfl
@[simp] theorem radioReadClockOffset_errCnt : ((radioReadClockOffset s).2).errCnt = s.errCnt := rfl
@[simp] theorem radioReadClockOffset_rxErrMask : ((radioReadClockOffset s).2).rxErrMask = s.rxErrMask := rfl
@[simp] theorem radioReadClockOffset_fatalCode : ((radioReadClockOffset s).2).fatalCode = s.fatalCode := rfl
@[simp] theorem radioReadClockOffset_mem : ((radioReadClockOffset s).2).mem = s.mem := rfl
@[simp] theorem radioReadClockOffset_txLen : ((radioReadClockOffset s).2).txLen = s.txLen := rfl
@[simp] theorem radioReadClockOffset_rxLen : ((radioReadClockOffset s).2).rxLen = s.rxLen := rfl
@[simp] theorem radioReadClockOffset_env_inputs : ((radioReadClockOffset s).2).env.inputs = s.env.inputs := rfl
@[simp] theorem radioReadClockOffset_env_sink : ((radioReadClockOffset s).2).env.sink = s.env.sink := rfl
@[simp] theorem radioReadClockOffset_env_readBack : ((radioReadClockOffset s).2).env.readBack = s.env.readBack := rfl
end radioReadClockOffset

section radioReadPdoa
@[simp] theorem radioReadPdoa_cfg : ((radioReadPdoa s).2).cfg = s.cfg := rfl
@[simp] theorem radioReadPdoa_phase : ((radioReadPdoa s).2).phase = s.phase := rfl
@[simp] theorem radioReadPdoa_auto : ((radioReadPdoa s).2).auto = s.auto := rfl
@[simp] theorem radioReadPdoa_ts : ((radioReadPdoa s).2).ts = s.ts := rfl
@[simp] theorem radioReadPdoa_kRaw : ((radioReadPdoa s).2).kRaw = s.kRaw := rfl
@[simp] theorem radioReadPdoa_pdoaRaw : ((radioReadPdoa s).2).pdoaRaw = s.pdoaRaw := rfl
@[simp] theorem radioReadPdoa_dlyTime : ((radioReadPdoa s).2).dlyTime = s.dlyTime := rfl
@[simp] theorem radioReadPdoa_tofDtu : ((radioReadPdoa s).2).tofDtu = s.tofDtu := rfl
@[simp] theorem radioReadPdoa_tofS : ((radioReadPdoa s).2).tofS = s.tofS := rfl
@[simp] theorem radioReadPdoa_distM : ((radioReadPdoa s).2).distM = s.distM := rfl
@[simp] theorem radioReadPdoa_durMs : ((radioReadPdoa s).2).durMs = s.durMs := rfl
@[simp] theorem radioReadPdoa_pdoaDeg : ((radioReadPdoa s).2).pdoaDeg = s.pdoaDeg := rfl
@[simp] theorem radioReadPdoa_vok : ((radioReadPdoa s).2).vok = s.vok := rfl
@[simp] theorem radioReadPdoa_resultValid : ((radioReadPdoa s).2).resultValid = s.resultValid := rfl
@[simp] theorem radioReadPdoa_pdoaValid : ((radioReadPdoa s).2).pdoaValid = s.pdoaValid := rfl
@[simp] theorem radioReadPdoa_durValid : ((radioReadPdoa s).2).durValid = s.durValid := rfl
@[simp] theorem radioReadPdoa_wrapFlag : ((radioReadPdoa s).2).wrapFlag = s.wrapFlag := rfl
@[simp] theorem radioReadPdoa_cmdFault : ((radioReadPdoa s).2).cmdFault = s.cmdFault := rfl
@[simp] theorem radioReadPdoa_firstCycle : ((radioReadPdoa s).2).firstCycle = s.firstCycle := rfl
@[simp] theorem radioReadPdoa_seq : ((radioReadPdoa s).2).seq = s.seq := rfl
@[simp] theorem radioReadPdoa_mat : ((radioReadPdoa s).2).mat = s.mat := rfl
@[simp] theorem radioReadPdoa_pend : ((radioReadPdoa s).2).pend = s.pend := rfl
@[simp] theorem radioReadPdoa_errCnt : ((radioReadPdoa s).2).errCnt = s.errCnt := rfl
@[simp] theorem radioReadPdoa_rxErrMask : ((radioReadPdoa s).2).rxErrMask = s.rxErrMask := rfl
@[simp] theorem radioReadPdoa_fatalCode : ((radioReadPdoa s).2).fatalCode = s.fatalCode := rfl
@[simp] theorem radioReadPdoa_mem : ((radioReadPdoa s).2).mem = s.mem := rfl
@[simp] theorem radioReadPdoa_txLen : ((radioReadPdoa s).2).txLen = s.txLen := rfl
@[simp] theorem radioReadPdoa_rxLen : ((radioReadPdoa s).2).rxLen = s.rxLen := rfl
@[simp] theorem radioReadPdoa_env_inputs : ((radioReadPdoa s).2).env.inputs = s.env.inputs := rfl
@[simp] theorem radioReadPdoa_env_sink : ((radioReadPdoa s).2).env.sink = s.env.sink := rfl
@[simp] theorem radioReadPdoa_env_readBack : ((radioReadPdoa s).2).env.readBack = s.env.readBack := rfl
end radioReadPdoa

section radioSetRxParams
variable (a b : Nat)
@[simp] theorem radioSetRxParams_cfg : (radioSetRxParams s a b).cfg = s.cfg := rfl
@[simp] theorem radioSetRxParams_phase : (radioSetRxParams s a b).phase = s.phase := rfl
@[simp] theorem radioSetRxParams_auto : (radioSetRxParams s a b).auto = s.auto := rfl
@[simp] theorem radioSetRxParams_ts : (radioSetRxParams s a b).ts = s.ts := rfl
@[simp] theorem radioSetRxParams_kRaw : (radioSetRxParams s a b).kRaw = s.kRaw := rfl
@[simp] theorem radioSetRxParams_pdoaRaw : (radioSetRxParams s a b).pdoaRaw = s.pdoaRaw := rfl
@[simp] theorem radioSetRxParams_dlyTime : (radioSetRxParams s a b).dlyTime = s.dlyTime := rfl
@[simp] theorem radioSetRxParams_tofDtu : (radioSetRxParams s a b).tofDtu = s.tofDtu := rfl
@[simp] theorem radioSetRxParams_tofS : (radioSetRxParams s a b).tofS = s.tofS := rfl
@[simp] theorem radioSetRxParams_distM : (radioSetRxParams s a b).distM = s.distM := rfl
@[simp] theorem radioSetRxParams_durMs : (radioSetRxParams s a b).durMs = s.durMs := rfl
@[simp] theorem radioSetRxParams_pdoaDeg : (radioSetRxParams s a b).pdoaDeg = s.pdoaDeg := rfl
@[simp] theorem radioSetRxParams_vok : (radioSetRxParams s a b).vok = s.vok := rfl
@[simp] theorem radioSetRxParams_resultValid : (radioSetRxParams s a b).resultValid = s.resultValid := rfl
@[simp] theorem radioSetRxParams_pdoaValid : (radioSetRxParams s a b).pdoaValid = s.pdoaValid := rfl
@[simp] theorem radioSetRxParams_durValid : (radioSetRxParams s a b).durValid = s.durValid := rfl
@[simp] theorem radioSetRxParams_wrapFlag : (radioSetRxParams s a b).wrapFlag = s.wrapFlag := rfl
@[simp] theorem radioSetRxParams_cmdFault : (radioSetRxParams s a b).cmdFault = s.cmdFault := rfl
@[simp] theorem radioSetRxParams_firstCycle : (radioSetRxParams s a b).firstCycle = s.firstCycle := rfl
@[simp] theorem radioSetRxParams_seq : (radioSetRxParams s a b).seq = s.seq := rfl
@[simp] theorem radioSetRxParams_mat : (radioSetRxParams s a b).mat = s.mat := rfl
@[simp] theorem radioSetRxParams_pend : (radioSetRxParams s a b).pend = s.pend := rfl
@[simp] theorem radioSetRxParams_errCnt : (radioSetRxParams s a b).errCnt = s.errCnt := rfl
@[simp] theorem radioSetRxParams_rxErrMask : (radioSetRxParams s a b).rxErrMask = s.rxErrMask := rfl
@[simp] theorem radioSetRxParams_fatalCode : (radioSetRxParams s a b).fatalCode = s.fatalCode := rfl
@[simp] theorem radioSetRxParams_mem : (radioSetRxParams s a b).mem = s.mem := rfl
@[simp] theorem radioSetRxParams_txLen : (radioSetRxParams s a b).txLen = s.txLen := rfl
@[simp] theorem radioSetRxParams_rxLen : (radioSetRxParams s a b).rxLen = s.rxLen := rfl
@[simp] theorem radioSetRxParams_env_inputs : (radioSetRxParams s a b).env.inputs = s.env.inputs := rfl
@[simp] theorem radioSetRxParams_env_sink : (radioSetRxParams s a b).env.sink = s.env.sink := rfl
@[simp] theorem radioSetRxParams_env_readBack : (radioSetRxParams s a b).env.readBack = s.env.readBack := rfl
end radioSetRxParams

end Sys2Proof.Machine
end

