-- ==== Sys2Proof/Laws/Ops.lean ====
section
/-! SUPPORT. The shared operations: what each can answer, said once. -/

namespace Sys2Proof.Machine

/-! Timestamp registers. -/

@[simp] theorem TsFile.get_put_same (t : TsFile) (r : TsReg) (x : TsSlot) : (t.put r x).get r = x := by
  cases r <;> rfl

theorem TsFile.get_put_other (t : TsFile) {r q : TsReg} (x : TsSlot) (h : q ≠ r) : (t.put r x).get q = t.get q := by
  cases r <;> cases q <;> first | rfl | exact absurd rfl h

@[simp] theorem clearTs_tsValid (s : State) (r : TsReg) : tsValid (clearTs s) r = false := by cases r <;> rfl

theorem setTs_tsValid (s : State) (r q : TsReg) (v : DWord) :
    tsValid (setTs s r v) q = (decide (q = r) || tsValid s q) := by
  cases r <;> cases q <;> rfl

theorem setTs_tsVal (s : State) (r q : TsReg) (v : DWord) :
    tsVal (setTs s r v) q = if q = r then v else tsVal s q := by
  cases r <;> cases q <;> rfl

@[simp] theorem tsReg?_index (r : TsReg) : tsReg? (BitVec.ofNat 8 r.index) = some r := by cases r <;> rfl

@[simp] theorem errKind?_code (k : ErrKind) : errKind? (BitVec.ofNat 8 k.code) = some k := by cases k <;> rfl

theorem needTs_ok_iff (s : State) (rs : List TsReg) : needTs s rs = .ok () ↔ tsAllValid s rs = true := by
  unfold needTs; split <;> simp_all

theorem needTs_of_valid {s : State} {rs : List TsReg} (h : tsAllValid s rs = true) : needTs s rs = .ok () :=
  (needTs_ok_iff s rs).mpr h

theorem needTs_of_invalid {s : State} {rs : List TsReg} (h : tsAllValid s rs = false) :
    needTs s rs = .error .tsInvalid := by
  simp [needTs, h]

/-! Counters. -/

theorem ErrCounters.get_bump_same (c : ErrCounters) (k : ErrKind) : (c.bump k).get k = c.get k + 1 := by
  cases k <;> rfl

theorem ErrCounters.get_bump_other (c : ErrCounters) {k j : ErrKind} (h : j ≠ k) : (c.bump k).get j = c.get j := by
  cases k <;> cases j <;> first | rfl | exact absurd rfl h

/-! Command acceptance (R97). -/

theorem idleCommand_fatal {s : State} (e : State → Except CmdFault State) (h : s.phase = .fatal) :
    idleCommand s e = s := by simp [idleCommand, h]

theorem idleCommand_busy {s : State} (e : State → Except CmdFault State) (h1 : s.phase ≠ .fatal)
    (h2 : s.phase ≠ .idle) : idleCommand s e = raiseCmdFault s .busy := by simp [idleCommand, h1, h2]

theorem idleCommand_idle {s : State} (e : State → Except CmdFault State) (h : s.phase = .idle) :
    idleCommand s e = finishCommand s (e s) := by simp [idleCommand, h]

/-- A command accepted in Idle only: it is dropped, it faults, or it has its effect. -/
theorem idleCommand_cases (s : State) (e : State → Except CmdFault State) :
    (s.phase = .fatal ∧ idleCommand s e = s) ∨
    (s.phase ≠ .fatal ∧ ∃ c, idleCommand s e = raiseCmdFault s c) ∨
    (s.phase = .idle ∧ ∃ t, e s = .ok t ∧ idleCommand s e = { t with cmdFault := .noFault }) := by
  by_cases hf : s.phase = .fatal
  · exact .inl ⟨hf, idleCommand_fatal e hf⟩
  by_cases hi : s.phase = .idle
  · rw [idleCommand_idle e hi]
    cases he : e s with
    | ok t => exact .inr (.inr ⟨hi, t, rfl, rfl⟩)
    | error c => exact .inr (.inl ⟨hf, c, rfl⟩)
  · exact .inr (.inl ⟨hf, _, idleCommand_busy e hf hi⟩)

/-! The free NaNs. -/

/-- Every free NaN is quiet: bit 51 is set. -/
theorem quietNaN_quiet (c : BitVec 52) : (quietNaN c).getLsbD 51 = true := by
  unfold quietNaN
  rw [BitVec.getLsbD_append, if_neg (by decide), BitVec.getLsbD_append, if_pos (by decide)]
  rfl

/-- Every free NaN is a NaN. -/
theorem isNaN64_quietNaN (c : BitVec 52) : isNaN64 (quietNaN c) = true := by
  have he : (quietNaN c).extractLsb' 52 11 = 2047#11 := by
    apply BitVec.eq_of_getLsbD_eq
    intro i hi
    unfold quietNaN
    rw [BitVec.getLsbD_extractLsb', BitVec.getLsbD_append, if_neg (by omega), BitVec.getLsbD_append,
      if_pos (by omega)]
    clear c
    interval_cases i <;> rfl
  have hf : ((quietNaN c).extractLsb' 0 52).toNat ≠ 0 := by
    intro h
    have h0 : (quietNaN c).extractLsb' 0 52 = 0#52 := BitVec.eq_of_toNat_eq h
    have h1 := congrArg (fun v => v.getLsbD 51) h0
    simp only [BitVec.getLsbD_extractLsb'] at h1
    have := quietNaN_quiet c
    simp_all
  unfold isNaN64 unpack64
  rw [he]
  simp only [BitVec.toNat_ofNat, if_neg hf]
  rfl

/-- What a result register receives: the value itself, or some quiet NaN in place of a NaN (R165). -/
theorem settleNaN_cases (c : BitVec 52) (v : DWord) :
    (isNaN64 v = false ∧ settleNaN c v = v) ∨
    (isNaN64 v = true ∧ isNaN64 (settleNaN c v) = true ∧ (settleNaN c v).getLsbD 51 = true) := by
  unfold settleNaN
  cases h : isNaN64 v
  · exact .inl ⟨rfl, rfl⟩
  · exact .inr ⟨rfl, isNaN64_quietNaN c, quietNaN_quiet c⟩

/-! The effects: when they succeed and what they leave. -/

theorem enc32Effect_ok_iff (r : TsReg) (off : Nat) (s t : State) :
    enc32Effect r off s = .ok t ↔
      off + 4 ≤ 24 ∧ tsValid s r = true ∧ t = storeBytes s .tx off (encField (tsVal s r)) := by
  by_cases h : off + 4 ≤ 24 <;> by_cases hv : tsValid s r = true <;>
    simp [enc32Effect, frameBufLen, needTs, tsAllValid, h, hv, bind, Except.bind, pure, Except.pure, throw,
      throwThe, MonadExceptOf.throw, eq_comm, Nat.not_lt.mpr, Nat.not_le.mp]

theorem dec32Effect_ok_iff (r : TsReg) (off : Nat) (s t : State) :
    dec32Effect r off s = .ok t ↔
      off + 4 ≤ rxReadable s ∧ t = setTs s r ((decField s off).setWidth 64) := by
  by_cases h : off + 4 ≤ rxReadable s <;>
    simp [dec32Effect, h, bind, Except.bind, pure, Except.pure, throw, throwThe, MonadExceptOf.throw, eq_comm,
      Nat.not_lt.mpr, Nat.not_le.mp]

theorem needMsg_ok_iff (c : Config) (m : Msg) : needMsg c m = .ok () ↔ msgExists c m = true := by
  unfold needMsg; split <;> simp_all

theorem buildEffect_ok_iff (m : Msg) (s t : State) :
    buildEffect m s = .ok t ↔
      msgExists s.cfg m = true ∧ tsAllValid s ((embedded m).map Prod.fst) = true ∧
      t = { s with mem := embedTs (buildHeader m s) (embedded m), txLen := BitVec.ofNat 5 (frameLen m) } := by
  by_cases h : msgExists s.cfg m = true <;>
    by_cases hv : tsAllValid s ((embedded m).map Prod.fst) = true <;>
    simp [buildEffect, needMsg, needTs, h, hv, bind, Except.bind, pure, Except.pure, eq_comm]

theorem validateEffect_ok_iff (m : Msg) (s t : State) :
    validateEffect m s = .ok t ↔ msgExists s.cfg m = true ∧ t = { s with vok := frameMatches m s } := by
  by_cases h : msgExists s.cfg m = true <;>
    simp [validateEffect, needMsg, h, bind, Except.bind, pure, Except.pure, eq_comm]

theorem tofssEffect_ok_iff (s t : State) :
    tofssEffect s = .ok t ↔ tsAllValid s [.pollTx, .pollRx, .respTx, .respRx] = true ∧
      t = { setResults s (tofSsDtu s) with wrapFlag := longPair s .respRx .pollTx } := by
  by_cases h : tsAllValid s [.pollTx, .pollRx, .respTx, .respRx] = true <;>
    simp [tofssEffect, needTs, h, bind, Except.bind, pure, Except.pure, eq_comm]

theorem tofdsEffect_ok_iff (s t : State) :
    tofdsEffect s = .ok t ↔ tsAllValid s [.pollTx, .pollRx, .respTx, .respRx, .finalTx, .finalRx] = true ∧
      t = { setResults s (tofDsDtu s) with
        wrapFlag := longPair s .respTx .pollRx || longPair s .finalRx .respTx } := by
  by_cases h : tsAllValid s [.pollTx, .pollRx, .respTx, .respRx, .finalTx, .finalRx] = true <;>
    simp [tofdsEffect, needTs, h, bind, Except.bind, pure, Except.pure, eq_comm]

theorem durmsEffect_ok_iff (a b : TsReg) (s t : State) :
    durmsEffect a b s = .ok t ↔ tsAllValid s [a, b] = true ∧
      t = { s with durMs := durationMs (d40 s a b), durValid := true } := by
  by_cases h : tsAllValid s [a, b] = true <;>
    simp [durmsEffect, needTs, h, bind, Except.bind, pure, Except.pure, eq_comm]

theorem deliverEffect_ok_iff (s t : State) :
    deliverEffect s = .ok t ↔ s.resultValid = true ∧ t = emit s (resultMessage s.distM) := by
  by_cases h : s.resultValid = true <;> simp [deliverEffect, h, eq_comm]

theorem txschedEffect_ok_iff (m : Msg) (s t : State) :
    txschedEffect m s = .ok t ↔ msgExists s.cfg m = true ∧ ∃ src dst dly, schedOf s.cfg m = some (src, dst, dly) ∧
      tsValid s src = true ∧
      t = { setTs s dst (schedStamp s.cfg (schedTime (tsVal s src) dly)) with
        dlyTime := (schedTime (tsVal s src) dly).extractLsb' 8 32 } := by
  by_cases h : msgExists s.cfg m = true
  · cases hs : schedOf s.cfg m with
    | none => simp [txschedEffect, needMsg, h, hs, bind, Except.bind, throw, throwThe, MonadExceptOf.throw]
    | some x =>
      obtain ⟨src, dst, dly⟩ := x
      have hv : tsAllValid s [src] = tsValid s src := by simp [tsAllValid]
      cases hx : tsValid s src <;>
        simp only [txschedEffect, needMsg, h, hs, needTs, hv, hx, bind, Except.bind, pure, Except.pure]
      · simp [hx]
      · constructor
        · intro ht; exact ⟨trivial, src, dst, dly, rfl, hx, (Except.ok.inj ht).symm⟩
        · rintro ⟨-, _, _, _, hq, -, rfl⟩; cases hq; rfl
  · simp [txschedEffect, needMsg, h, bind, Except.bind]

/-- The delayed transmission time, its word and its stamp as numbers (R233). -/
theorem schedTime_toNat (rx : DWord) (dly : Nat) : (schedTime rx dly).toNat = (rx.toNat % 2 ^ 40 + dly) % 2 ^ 40 := by
  simp [schedTime, trunc40]

theorem schedStamp_toNat (c : Config) (x : Time40) :
    (schedStamp c x).toNat = (x.toNat / 512 * 512 + c.txAntDly.toNat) % 2 ^ 40 := by
  have h := c.txAntDly.isLt
  have hx := x.isLt
  simp only [schedStamp, BitVec.toNat_setWidth, BitVec.toNat_add, BitVec.toNat_shiftLeft, BitVec.toNat_ushiftRight,
    Nat.shiftLeft_eq, Nat.shiftRight_eq_div_pow]
  omega

theorem dlyTime_toNat (x : Time40) : (x.extractLsb' 8 32).toNat = x.toNat / 256 := by
  have hx := x.isLt
  simp only [BitVec.extractLsb'_toNat, Nat.shiftRight_eq_div_pow]
  omega

/-- What a run of DEC32 can change: the timestamp registers, of which the named ones become valid and none invalid. -/
theorem extractEffect_ok {s t : State} {l : List (TsReg × Nat)} (h : extractEffect s l = .ok t) :
    t = { s with ts := t.ts } ∧ (∀ r, tsValid s r = true → tsValid t r = true) ∧
      ∀ p ∈ l, tsValid t p.1 = true := by
  induction l generalizing s with
  | nil =>
    simp only [extractEffect, Except.ok.injEq] at h
    subst h; exact ⟨rfl, fun _ h => h, by simp⟩
  | cons p rest ih =>
    obtain ⟨r, off⟩ := p
    simp only [extractEffect, bind, Except.bind] at h
    split at h
    · cases h
    · rename_i u hu
      obtain ⟨_, rfl⟩ := (dec32Effect_ok_iff r off s u).mp hu
      obtain ⟨h1, h2, h3⟩ := ih h
      refine ⟨?_, fun q hq => h2 q (by simp [setTs_tsValid, hq]), ?_⟩
      · rw [h1]; rfl
      · intro p hp
        rcases List.mem_cons.mp hp with rfl | hp
        · exact h2 _ (by simp [setTs_tsValid])
        · exact h3 p hp

/-- Writing timestamp fields inside TXBUF keeps the store in form. -/
theorem embedTs_fits (l : List (TsReg × Nat)) (hl : ∀ p ∈ l, p.2 + 4 ≤ 24) (s : State)
    (hw : s.mem.wf = true) (hb : s.mem.inBuffers = true) :
    (embedTs s l).wf = true ∧ (embedTs s l).inBuffers = true := by
  induction l generalizing s with
  | nil => exact ⟨hw, hb⟩
  | cons p rest ih =>
    obtain ⟨r, off⟩ := p
    refine ih (fun p hp => hl p (List.mem_cons_of_mem _ hp)) _ (memWrite_wf hw _ _ _) ?_
    exact memWrite_inBuffers hb _ _ _ (hl _ (List.mem_cons_self ..))

theorem embedded_fits (m : Msg) : ∀ p ∈ embedded m, p.2 + 4 ≤ 24 := by cases m <;> decide

theorem rxBytes_length (bytes : List Byte) : (rxBytes bytes).length = 24 := by
  simp [rxBytes]; omega

end Sys2Proof.Machine
end

