-- ==== Sys2Proof/Laws/PerInstr.lean ====
section
/-! SUPPORT. One law for every command: its word leaves bits 31:24 clear (spec/30_encoding.md R90). -/

namespace Sys2Proof.Laws.ReservedZ

/-- The command's word has `Z = 0`. -/
def Statement (i : Instr) : Prop := fieldZ (encode i) = 0

theorem enc32 (ts off : Byte) : Statement (.enc32 ts off) := fieldZ_mkWord _ _ _
theorem dec32 (ts off : Byte) : Statement (.dec32 ts off) := fieldZ_mkWord _ _ _
theorem txsched (msg : Byte) : Statement (.txsched msg) := fieldZ_mkWord _ _ _
theorem build (msg : Byte) : Statement (.build msg) := fieldZ_mkWord _ _ _
theorem validate (msg : Byte) : Statement (.validate msg) := fieldZ_mkWord _ _ _
theorem tofss : Statement .tofss := fieldZ_mkWord _ _ _
theorem tofds : Statement .tofds := fieldZ_mkWord _ _ _
theorem pdoacvt : Statement .pdoacvt := fieldZ_mkWord _ _ _
theorem durms (a b : Byte) : Statement (.durms a b) := fieldZ_mkWord _ _ _
theorem postkey : Statement .postkey := fieldZ_mkWord _ _ _
theorem applykey : Statement .applykey := fieldZ_mkWord _ _ _
theorem armcyc : Statement .armcyc := fieldZ_mkWord _ _ _
theorem seqinc : Statement .seqinc := fieldZ_mkWord _ _ _
theorem errinc (kind mask : Byte) : Statement (.errinc kind mask) := fieldZ_mkWord _ _ _
theorem tsclr : Statement .tsclr := fieldZ_mkWord _ _ _
theorem deliver : Statement .deliver := fieldZ_mkWord _ _ _
theorem run : Statement .run := fieldZ_mkWord _ _ _

end Sys2Proof.Laws.ReservedZ
end

