-- ==== Sys2Proof/Laws/Sequencer.lean ====
section
/-! SUPPORT. The steps of the sequencer: what each can answer, said once (spec/44_sequencer.md). -/

namespace Sys2Proof.Machine

/-! Waiting on the radio. -/

/-- The state after a status word has been looked at. -/
def lookedAt (s : State) (rest : List Word) : State :=
  withAnswers s { s.env.answers with status := rest } s.env.free

/-- `wait_status` blocks with nothing to look at, passes over a word outside the mask, or returns. -/
theorem radioWaitStatus_cases (s : State) (mask : Word) :
    (s.env.answers.status = [] ∧ radioWaitStatus s mask = .blocked s) ∨
    ∃ st rest, s.env.answers.status = st :: rest ∧
      ((st &&& mask = 0 ∧ radioWaitStatus s mask = .blocked (lookedAt s rest)) ∨
       (st &&& mask ≠ 0 ∧ radioWaitStatus s mask = .returned st (call (lookedAt s rest) (.waitStatus mask)))) := by
  unfold radioWaitStatus
  cases h : s.env.answers.status with
  | nil => exact .inl ⟨rfl, rfl⟩
  | cons st rest =>
    refine .inr ⟨st, rest, rfl, ?_⟩
    by_cases hm : st &&& mask = 0
    · exact .inl ⟨hm, if_pos hm⟩
    · exact .inr ⟨hm, if_neg hm⟩

theorem radioWaitStatus_return {s : State} {mask st : Word} {rest : List Word}
    (h : s.env.answers.status = st :: rest) (hm : st &&& mask ≠ 0) :
    radioWaitStatus s mask = .returned st (call (lookedAt s rest) (.waitStatus mask)) := by
  unfold radioWaitStatus; rw [h]; exact if_neg hm

/-- The state in which a send wait step goes on after TX_DONE. -/
def txDoneState (s : State) (rest : List Word) : State :=
  bumpSeq (radioClearStatus (call (lookedAt s rest) (.waitStatus txDoneMask)) txDoneMask)

/-- A send wait step blocks, passes over a status word, or goes on. -/
theorem txWait_cases (s : State) (next : State → State) :
    txWait s next = s ∨
    ∃ st rest, s.env.answers.status = st :: rest ∧
      (txWait s next = lookedAt s rest ∨
       (st &&& txDoneMask ≠ 0 ∧ txWait s next = next (txDoneState s rest))) := by
  unfold txWait
  rcases radioWaitStatus_cases s txDoneMask with ⟨-, h⟩ | ⟨st, rest, hs, ⟨-, h⟩ | ⟨hm, h⟩⟩ <;> rw [h]
  · exact .inl rfl
  · exact .inr ⟨st, rest, hs, .inl rfl⟩
  · exact .inr ⟨st, rest, hs, .inr ⟨hm, rfl⟩⟩

/-- The state in which a receive wait step has a status in hand, its bits cleared. -/
def rxStatusState (s : State) (st : Word) (rest : List Word) : State :=
  radioClearStatus (call (lookedAt s rest) (.waitStatus rxMask)) (st &&& rxMask)

/-- A receive wait step blocks, passes over a status word, enters the error, or goes on to the checks. -/
theorem rxWait_cases (m : Msg) (go : State → Except CmdFault State) (s : State) :
    rxWait m go s = s ∨
    ∃ st rest, s.env.answers.status = st :: rest ∧
      (rxWait m go s = lookedAt s rest ∨
       (st &&& rxMask ≠ 0 ∧
        ((∃ k mask, classify st = .bad k mask ∧ rxWait m go s = raiseErr (rxStatusState s st rest) k mask) ∨
         (classify st = .good ∧ rxWait m go s = seqOutcome s (rxGood m go (rxStatusState s st rest)))))) := by
  unfold rxWait
  rcases radioWaitStatus_cases s rxMask with ⟨-, h⟩ | ⟨st, rest, hs, ⟨-, h⟩ | ⟨hm, h⟩⟩ <;> rw [h]
  · exact .inl rfl
  · exact .inr ⟨st, rest, hs, .inl rfl⟩
  · refine .inr ⟨st, rest, hs, .inr ⟨hm, ?_⟩⟩
    cases hc : classify st with
    | good => exact .inr ⟨rfl, by simp [rxStatusState, hc]⟩
    | bad k mask => exact .inl ⟨k, mask, rfl, by simp [rxStatusState, hc]⟩

/-- The checks after a good status: a bad STS, a frame that does not match, or the rest of the step. -/
theorem rxGood_cases (m : Msg) (go : State → Except CmdFault State) (s : State) :
    (stsAccepted (radioReadSts s).1 = false ∧ rxGood m go s = .ok (raiseErr (radioReadSts s).2 .badStsQuality 0)) ∨
    (stsAccepted (radioReadSts s).1 = true ∧ msgExists s.cfg m = false ∧ rxGood m go s = .error .badOperand) ∨
    (stsAccepted (radioReadSts s).1 = true ∧ msgExists s.cfg m = true ∧
      frameMatches m (radioReadFrame (radioReadSts s).2) = false ∧
      rxGood m go s = .ok (raiseErr { radioReadFrame (radioReadSts s).2 with vok := false } .badFrameHeader 0)) ∨
    (stsAccepted (radioReadSts s).1 = true ∧ msgExists s.cfg m = true ∧
      frameMatches m (radioReadFrame (radioReadSts s).2) = true ∧
      rxGood m go s = go { radioReadFrame (radioReadSts s).2 with vok := true }) := by
  unfold rxGood
  cases hq : stsAccepted (radioReadSts s).1
  · exact .inl ⟨rfl, by simp [hq]⟩
  · refine .inr ?_
    cases he : msgExists s.cfg m <;>
      cases hf : frameMatches m (radioReadFrame (radioReadSts s).2) <;>
      simp [hq, validateEffect, needMsg, he, hf, bind, Except.bind, pure, Except.pure]

/-! The rest of each good receive step. -/

/-- Two environments that differ at most in the answers left, the free-value counter and the calls made. -/
def envKept (e f : Env) : Prop := f = { e with answers := f.answers, free := f.free, calls := f.calls }

theorem envKept.trans {e f g : Env} (h : envKept e f) (k : envKept f g) : envKept e g := by
  unfold envKept at *; rw [k, h]

theorem radioWriteTxFrame_kept (s : State) : envKept s.env (radioWriteTxFrame s).env := rfl

theorem readClock_frame (s : State) :
    ∃ k e, readClock s = { s with kRaw := k, env := e } ∧ envKept s.env e := by
  unfold readClock envKept; split <;> exact ⟨_, _, rfl, rfl⟩

theorem readPdoa_frame (s : State) :
    ∃ p e, readPdoa s = { s with pdoaRaw := p, env := e } ∧ envKept s.env e := by
  unfold readPdoa envKept; split <;> exact ⟨_, _, rfl, rfl⟩

/-- Reading the clock offset as a whole: the radio's reading and one call when it is enabled, else 0 and none (R211,
R28). -/
theorem readClock_eq (s : State) :
    ∃ k ans n, readClock s = { s with
      kRaw := k
      env := { s.env with
        answers := ans, free := n
        calls := s.env.calls ++ if s.cfg.clkoffEn then [.readClockOffset] else [] } } ∧
      (s.cfg.clkoffEn = false → k = 0) ∧
      (s.cfg.clkoffEn = true → ∀ x xs, s.env.answers.clockOffset = x :: xs → k = x) ∧
      ans.pdoa = s.env.answers.pdoa := by
  unfold readClock
  cases h : s.cfg.clkoffEn
  · exact ⟨0, s.env.answers, s.env.free, by simp, fun _ => rfl, nofun, rfl⟩
  · refine ⟨(radioReadClockOffset s).1, (radioReadClockOffset s).2.env.answers, (radioReadClockOffset s).2.env.free,
      by simp only [if_true]; rfl, nofun, ?_, rfl⟩
    intro _ x xs hx
    simp [radioReadClockOffset, nextAnswer, hx]

/-- Reading the PDOA as a whole: the radio's reading and one call when it is enabled, else nothing (R211, R221, R29). -/
theorem readPdoa_eq (s : State) :
    ∃ p ans n, readPdoa s = { s with
      pdoaRaw := p
      env := { s.env with
        answers := ans, free := n, calls := s.env.calls ++ if s.cfg.pdoaEn then [.readPdoa] else [] } } ∧
      (s.cfg.pdoaEn = false → p = s.pdoaRaw) ∧
      (s.cfg.pdoaEn = true → ∀ x xs, s.env.answers.pdoa = x :: xs → p = x) := by
  unfold readPdoa
  cases h : s.cfg.pdoaEn
  · exact ⟨s.pdoaRaw, s.env.answers, s.env.free, by simp, fun _ => rfl, nofun⟩
  · refine ⟨(radioReadPdoa s).1, (radioReadPdoa s).2.env.answers, (radioReadPdoa s).2.env.free,
      by simp only [if_true]; rfl, nofun, ?_⟩
    intro _ x xs hx
    simp [radioReadPdoa, nextAnswer, hx]

theorem stampTx_frame (s : State) (r : TsReg) :
    ∃ v e, stampTx s r = { s with ts := s.ts.put r ⟨v, true⟩, env := e } ∧ envKept s.env e :=
  ⟨_, _, rfl, rfl⟩

theorem stampRx_frame (s : State) (r : TsReg) :
    ∃ v e, stampRx s r = { s with ts := s.ts.put r ⟨v, true⟩, env := e } ∧ envKept s.env e :=
  ⟨_, _, rfl, rfl⟩

theorem extractEffect_frame {s t : State} {l : List (TsReg × Nat)} (h : extractEffect s l = .ok t) :
    ∃ f : TsFile, t = { s with ts := f } ∧ (∀ r, (s.ts.get r).valid = true → (f.get r).valid = true) ∧
      ∀ p ∈ l, (f.get p.1).valid = true :=
  ⟨_, (extractEffect_ok h).1, (extractEffect_ok h).2.1, (extractEffect_ok h).2.2⟩

/-- What a good AwaitResponse step leaves (R211). -/
theorem gotResponse_ok {s t : State} (h : gotResponse s = .ok t) :
    ∃ f k p e, t = { s with phase := .compute, ts := f, kRaw := k, pdoaRaw := p, env := e } ∧ envKept s.env e ∧
      ∀ r ∈ [TsReg.pollTx, .pollRx, .respTx, .respRx], (f.get r).valid = true := by
  unfold gotResponse at h
  obtain ⟨v1, e1, h1, k1⟩ := stampTx_frame s .pollTx
  obtain ⟨v2, e2, h2, k2⟩ := stampRx_frame (stampTx s .pollTx) .respRx
  rw [h1] at h2 k2
  rw [h1, h2] at h
  simp only [bind, Except.bind, pure, Except.pure] at h
  split at h
  · cases h
  rename_i u hu
  obtain ⟨f, hf, a1, a2⟩ := extractEffect_frame hu
  obtain ⟨k, e3, h3, k3⟩ := readClock_frame u
  obtain ⟨p, e4, h4, k4⟩ := readPdoa_frame (readClock u)
  rw [h3] at h4 k4
  rw [h3, h4] at h
  subst hf
  refine ⟨f, k, p, e4, (Except.ok.inj h).symm, k1.trans (k2.trans (k3.trans k4)), ?_⟩
  have b1 := a1 .pollTx (by rfl)
  have b2 := a1 .respRx (by rfl)
  have b3 := a2 (.pollRx, 10) (by decide)
  have b4 := a2 (.respTx, 14) (by decide)
  simp only [List.mem_cons, List.not_mem_nil, or_false]
  rintro r (rfl | rfl | rfl | rfl) <;> assumption

/-- What a good AwaitFinal step leaves (R221). -/
theorem gotFinal_ok {s t : State} (h : gotFinal s = .ok t) :
    ∃ f p e, t = { s with phase := .compute, ts := f, pdoaRaw := p, env := e } ∧ envKept s.env e ∧
      (∀ r, (s.ts.get r).valid = true → (f.get r).valid = true) ∧
      ∀ r ∈ [TsReg.pollTx, .respRx, .finalTx, .finalRx], (f.get r).valid = true := by
  unfold gotFinal at h
  obtain ⟨v1, e1, h1, k1⟩ := stampRx_frame s .finalRx
  rw [h1] at h
  simp only [bind, Except.bind, pure, Except.pure] at h
  split at h
  · cases h
  rename_i u hu
  obtain ⟨f, hf, a1, a2⟩ := extractEffect_frame hu
  obtain ⟨p, e4, h4, k4⟩ := readPdoa_frame u
  rw [h4] at h
  subst hf
  refine ⟨f, p, e4, (Except.ok.inj h).symm, k1.trans k4, ?_, ?_⟩
  · intro r hr
    refine a1 r ?_
    show ((s.ts.put .finalRx ⟨v1, true⟩).get r).valid = true
    by_cases hq : r = .finalRx
    · subst hq; simp
    · rw [TsFile.get_put_other _ _ hq]; exact hr
  · have b1 := a1 .finalRx (by rfl)
    have b2 := a2 (.pollTx, 10) (by decide)
    have b3 := a2 (.respRx, 14) (by decide)
    have b4 := a2 (.finalTx, 18) (by decide)
    simp only [List.mem_cons, List.not_mem_nil, or_false]
    rintro r (rfl | rfl | rfl | rfl) <;> assumption

/-- A delayed transmission: accepted, or DelayedTxTooLate (R287). -/
theorem sendDelayed_cases (s : State) (x : Bool) (next : Phase) :
    ∃ e, envKept s.env e ∧
      (sendDelayed s x next = { s with phase := next, env := e } ∨
       sendDelayed s x next = raiseErr { s with env := e } .delayedTxTooLate 0) := by
  unfold sendDelayed
  refine ⟨(radioArmTx s (.delayed s.dlyTime) x).2.env, rfl, ?_⟩
  cases h : (radioArmTx s (.delayed s.dlyTime) x).1 with
  | ok => exact .inl (by simp only [h]; rfl)
  | late => exact .inr (by simp only [h]; rfl)

theorem finalWindow_frame (s : State) : ∃ e, finalWindow s = { s with env := e } ∧ envKept s.env e := by
  unfold finalWindow envKept; split <;> exact ⟨_, rfl, rfl⟩

theorem buildHeader_mem (m : Msg) (s : State) :
    (buildHeader m s).mem = memWrite (memWrite (memWrite s.mem .tx 0 (List.replicate frameBufLen 0)) .tx 0
      (template s.cfg s.mat m)) .tx 2 [s.seq] := by
  unfold buildHeader storeBytes
  with_reducible rfl

theorem buildHeader_mem_wf (m : Msg) (s : State) (hw : s.mem.wf = true) : (buildHeader m s).mem.wf = true := by
  rw [buildHeader_mem]
  exact memWrite_wf (memWrite_wf (memWrite_wf hw _ _ _) _ _ _) _ _ _

/-- The store BUILD leaves is in form. -/
theorem build_mem_wf (m : Msg) (s : State) (hw : s.mem.wf = true) :
    (embedTs (buildHeader m s) (embedded m)).wf = true := by
  have h1 := buildHeader_mem_wf m s hw
  generalize buildHeader m s = u at h1
  generalize embedded m = l
  induction l generalizing u with
  | nil => exact h1
  | cons p rest ih => exact ih _ (memWrite_wf h1 _ _ _)

theorem build_mem_inBuffers (m : Msg) (s : State) (hw : s.mem.wf = true) (hb : s.mem.inBuffers = true) :
    (embedTs (buildHeader m s) (embedded m)).inBuffers = true := by
  have h1 := buildHeader_mem_wf m s hw
  refine (embedTs_fits _ (embedded_fits m) _ h1 ?_).2
  rw [buildHeader_mem]
  have hz : (List.replicate frameBufLen (0 : Byte)).length = 24 := rfl
  have ht : (template s.cfg s.mat m).length = 10 := rfl
  exact memWrite_inBuffers (memWrite_inBuffers (memWrite_inBuffers hb .tx 0 _ (by rw [hz]; decide)) .tx 0 _
    (by rw [ht]; decide)) .tx 2 _ (by simp [Buf.size])

/-- The bytes of the frame BUILD makes, up to the zeros at its end: the header with `SEQ`, then the timestamp
fields (R142). -/
def frameBytes (m : Msg) (s : State) : List Byte :=
  (template s.cfg s.mat m).set 2 s.seq ++ (embedded m).flatMap fun p => encField (tsVal s p.1)

/-- The addresses of TXBUF (R60). -/
theorem Buf.holds_tx (a : Nat) : (Buf.tx.holds a = true) = (384 ≤ a ∧ a < 408) := by
  unfold Buf.holds
  rw [Bool.and_eq_true, decide_eq_true_eq, decide_eq_true_eq]
  rfl

/-- The fields written one after the other, on the byte store alone. -/
theorem embedTs_eq (l : List (TsReg × Nat)) (s : State) :
    embedTs s l = l.foldl (fun m p => memWrite m .tx p.2 (encField (tsVal s p.1))) s.mem := by
  induction l generalizing s with
  | nil => rfl
  | cons p rest ih => exact ih _

/-- Two writes, the second right after the first, are one. -/
theorem memWrite_append (m : Memory) (b : Buf) (off n : Nat) (xs ys : List Byte) (h : n = off + xs.length) :
    memWrite (memWrite m b off xs) b n ys = memWrite m b off (xs ++ ys) := by
  subst h
  unfold memWrite
  rw [← Nat.add_assoc]
  generalize b.base + off = a
  induction xs generalizing m a with
  | nil => rfl
  | cons x xs ih =>
    have := ih (m.write a x) (a + 1)
    simp only [List.length_cons, Memory.writeBytes, List.cons_append]
    rw [← this]
    congr 1
    omega

theorem frameBytes_length (m : Msg) (s : State) : (frameBytes m s).length + 2 = frameLen m := by cases m <;> rfl

/-- The header part of BUILD: TXBUF cleared, then the template with `SEQ` in byte 2. -/
theorem buildHeader_read (m : Msg) (s : State) (hw : s.mem.wf = true) (a : Nat) :
    (buildHeader m s).mem.read a =
      if Buf.tx.holds a then ((template s.cfg s.mat m).set 2 s.seq).getD (a - Buf.tx.base) 0 else s.mem.read a := by
  have h0 := memWrite_wf hw .tx 0 (List.replicate frameBufLen 0)
  have h1 := memWrite_wf h0 .tx 0 (template s.cfg s.mat m)
  have hl : (template s.cfg s.mat m).length = 10 := rfl
  rw [buildHeader_mem, read_memWrite h1, read_memWrite h0, read_memWrite hw]
  generalize template s.cfg s.mat m = l at hl
  simp only [List.length_replicate, List.length_singleton, hl, frameBufLen, Buf.holds_tx, show Buf.tx.base = 384 from rfl]
  by_cases h : 384 ≤ a ∧ a < 408
  · obtain ⟨i, rfl⟩ : ∃ i, a = 384 + i := ⟨a - 384, by omega⟩
    have e : 384 + i - 384 = i := by omega
    simp only [Nat.add_zero, e, if_pos h]
    by_cases h2 : i = 2
    · subst h2; simp [hl]
    · rw [if_neg (by omega)]
      simp only [List.getD_eq_getElem?_getD, List.getElem?_set, Ne.symm h2, if_false]
      by_cases h3 : i < 10
      · rw [if_pos (by omega)]
      · rw [if_neg (by omega), List.getElem?_eq_none (l := l) (by omega), List.getElem?_replicate]
        split <;> rfl
  · rw [if_neg (by omega), if_neg (by omega), if_neg (by omega), if_neg h]

/-- The fields of a message follow its header without a gap. -/
theorem embedTs_eq_write (m : Msg) (s : State) :
    embedTs s (embedded m) = memWrite s.mem .tx 10 ((embedded m).flatMap fun p => encField (tsVal s p.1)) := by
  rw [embedTs_eq]
  have h : ∀ v, (encField v).length = 4 := fun _ => rfl
  cases m
  · rfl
  · simp only [embedded, List.foldl, List.flatMap_cons, List.flatMap_nil, List.append_nil]
    rw [memWrite_append _ _ _ _ _ _ (by rw [h])]
  · simp only [embedded, List.foldl, List.flatMap_cons, List.flatMap_nil, List.append_nil]
    rw [memWrite_append _ _ _ _ _ _ (by rw [h]), memWrite_append _ _ _ _ _ _ (by simp [h])]

theorem headerBytes_length (m : Msg) (s : State) : ((template s.cfg s.mat m).set 2 s.seq).length = 10 := rfl

theorem frameLen_le (m : Msg) : frameLen m ≤ 24 := by cases m <;> decide

theorem embedded_buildHeader (m : Msg) (s : State) :
    (embedded m).flatMap (fun p => encField (tsVal (buildHeader m s) p.1)) =
      (embedded m).flatMap (fun p => encField (tsVal s p.1)) := by
  have f : ∀ r, tsVal (buildHeader m s) r = tsVal s r := fun r => by
    unfold tsVal buildHeader storeBytes
    with_reducible rfl
  simp only [f]

/-- What BUILD leaves in memory: the frame and zeros in TXBUF, every other byte as before (R142). -/
theorem build_read (m : Msg) (s : State) (hw : s.mem.wf = true) (a : Nat) :
    (embedTs (buildHeader m s) (embedded m)).read a =
      if Buf.tx.holds a then (frameBytes m s).getD (a - Buf.tx.base) 0 else s.mem.read a := by
  rw [embedTs_eq_write, read_memWrite (buildHeader_mem_wf m s hw), buildHeader_read m s hw]
  have hl := headerBytes_length m s
  have hf := frameBytes_length m s
  have hm := frameLen_le m
  rw [embedded_buildHeader]
  unfold frameBytes at *
  generalize (template s.cfg s.mat m).set 2 s.seq = l at *
  generalize (embedded m).flatMap (fun p => encField (tsVal s p.1)) = l' at *
  rw [List.length_append] at hf
  simp only [Buf.holds_tx, show Buf.tx.base = 384 from rfl, List.getD_eq_getElem?_getD, List.getElem?_append, hl]
  by_cases h1 : 384 + 10 ≤ a ∧ a < 384 + 10 + l'.length
  · rw [if_pos h1, if_pos (by omega), if_neg (by omega), show a - (384 + 10) = a - 384 - 10 by omega]
  · rw [if_neg h1]
    split
    · split
      · rfl
      · rw [List.getElem?_eq_none (by omega), List.getElem?_eq_none (by omega)]
    · rfl

/-- What BUILD leaves. -/
theorem buildEffect_frame {m : Msg} {s t : State} (h : buildEffect m s = .ok t) :
    ∃ mem, t = { s with mem := mem, txLen := BitVec.ofNat 5 (frameLen m) } ∧
      (s.mem.wf = true → mem.wf = true) ∧ (s.mem.wf = true → s.mem.inBuffers = true → mem.inBuffers = true) :=
  ⟨_, ((buildEffect_ok_iff _ _ _).mp h).2.2, build_mem_wf m s, build_mem_inBuffers m s⟩

/-- What TXSCHED leaves. -/
theorem txschedEffect_frame {m : Msg} {s t : State} (h : txschedEffect m s = .ok t) :
    ∃ src dst dly v d, schedOf s.cfg m = some (src, dst, dly) ∧
      t = { s with ts := s.ts.put dst ⟨v, true⟩, dlyTime := d } := by
  obtain ⟨-, src, dst, dly, hs, -, ht⟩ := (txschedEffect_ok_iff _ _ _).mp h
  exact ⟨src, dst, dly, _, _, hs, ht⟩

theorem TsFile.put_valid (t : TsFile) (r q : TsReg) (v : DWord) (h : (t.get q).valid = true) :
    ((t.put r ⟨v, true⟩).get q).valid = true := by
  by_cases hq : q = r
  · subst hq; simp
  · rw [TsFile.get_put_other _ _ hq]; exact h

/-- What a good AwaitPoll step leaves (R216). -/
theorem gotPoll_ok {s t : State} (h : gotPoll s = .ok t) :
    ∃ f d m e, envKept s.env e ∧ (f.get .pollRx).valid = true ∧ (f.get .respTx).valid = true ∧
      (s.mem.wf = true → m.wf = true) ∧ (s.mem.wf = true → s.mem.inBuffers = true → m.inBuffers = true) ∧
      (t = { s with phase := .sendResponse, ts := f, dlyTime := d, mem := m, txLen := 20, env := e } ∨
       t = raiseErr { s with ts := f, dlyTime := d, mem := m, txLen := 20, env := e } .delayedTxTooLate 0) := by
  unfold gotPoll at h
  obtain ⟨v1, e1, h1, k1⟩ := stampRx_frame s .pollRx
  rw [h1] at h
  simp only [bind, Except.bind, pure, Except.pure] at h
  split at h
  · cases h
  rename_i u hu
  obtain ⟨src, dst, dly, v, d, hs, rfl⟩ := txschedEffect_frame hu
  simp only [schedOf, Option.some.injEq, Prod.mk.injEq] at hs
  obtain ⟨-, rfl, -⟩ := hs
  clear hu
  split at h
  · cases h
  rename_i w hw
  obtain ⟨mem, rfl, w1, w2⟩ := buildEffect_frame hw
  clear hw
  generalize hf : (s.ts.put .pollRx ⟨v1, true⟩).put .respTx ⟨v, true⟩ = f at h
  have a1 : (f.get .pollRx).valid = true := by rw [← hf]; exact TsFile.put_valid _ _ _ _ (by simp)
  have a2 : (f.get .respTx).valid = true := by rw [← hf]; simp
  obtain ⟨e2, h2, k2⟩ := finalWindow_frame (radioWriteTxFrame
    { s with ts := f, dlyTime := d, mem := mem, txLen := BitVec.ofNat 5 (frameLen .resp), env := e1 })
  rw [h2] at h
  obtain ⟨e3, k3, h3⟩ := sendDelayed_cases { radioWriteTxFrame
    { s with ts := f, dlyTime := d, mem := mem, txLen := BitVec.ofNat 5 (frameLen .resp), env := e1 } with env := e2 }
    (decide (s.cfg.variant ≠ .singleSided)) .sendResponse
  rw [← Except.ok.inj h]
  exact ⟨f, d, mem, e3, k1.trans ((radioWriteTxFrame_kept _).trans (k2.trans k3)), a1, a2, w1, w2, h3⟩

/-- What the rest of the compute step leaves when it sends the Final (R214). -/
theorem sendFinal_ok {s t : State} (h : sendFinal s = .ok t) :
    ∃ f d m e, envKept s.env e ∧ s.cfg.variant ≠ .singleSided ∧
      (s.mem.wf = true → m.wf = true) ∧ (s.mem.wf = true → s.mem.inBuffers = true → m.inBuffers = true) ∧
      (t = { s with phase := .sendFinal, ts := f, dlyTime := d, mem := m, txLen := 24, env := e } ∨
       t = raiseErr { s with ts := f, dlyTime := d, mem := m, txLen := 24, env := e } .delayedTxTooLate 0) := by
  unfold sendFinal at h
  simp only [bind, Except.bind, pure, Except.pure] at h
  split at h
  · cases h
  rename_i u hu
  have hv : s.cfg.variant ≠ .singleSided := by
    have := ((txschedEffect_ok_iff _ _ _).mp hu).1
    simpa [msgExists] using this
  obtain ⟨src, dst, dly, v, d, hs, rfl⟩ := txschedEffect_frame hu
  clear hu
  split at h
  · cases h
  rename_i w hw
  obtain ⟨mem, rfl, w1, w2⟩ := buildEffect_frame hw
  clear hw
  obtain ⟨e3, k3, h3⟩ := sendDelayed_cases (radioWriteTxFrame
    { s with ts := s.ts.put dst ⟨v, true⟩, dlyTime := d, mem := mem, txLen := BitVec.ofNat 5 (frameLen .final) })
    false .sendFinal
  rw [← Except.ok.inj h]
  exact ⟨_, d, mem, e3, (radioWriteTxFrame_kept _).trans k3, hv, w1, w2, h3⟩

/-- What TXSCHED leaves: the time word, and the transmit timestamp (R233). -/
def scheduled (s : State) (src dst : TsReg) (dly : Nat) : State :=
  { setTs s dst (schedStamp s.cfg (schedTime (tsVal s src) dly)) with
    dlyTime := (schedTime (tsVal s src) dly).extractLsb' 8 32 }

/-- What BUILD leaves: the frame in TXBUF, and its length (R142). -/
def built (m : Msg) (s : State) : State :=
  { s with mem := embedTs (buildHeader m s) (embedded m), txLen := BitVec.ofNat 5 (frameLen m) }

theorem built_eq (m : Msg) (s : State) :
    built m s = { s with mem := (built m s).mem, txLen := BitVec.ofNat 5 (frameLen m) } := rfl

theorem txschedEffect_eq {m : Msg} {s : State} {src dst : TsReg} {dly : Nat} (he : msgExists s.cfg m = true)
    (hs : schedOf s.cfg m = some (src, dst, dly)) (hv : tsValid s src = true) :
    txschedEffect m s = .ok (scheduled s src dst dly) :=
  (txschedEffect_ok_iff _ _ _).mpr ⟨he, src, dst, dly, hs, hv, rfl⟩

theorem buildEffect_eq {m : Msg} {s : State} (he : msgExists s.cfg m = true)
    (hv : tsAllValid s ((embedded m).map Prod.fst) = true) : buildEffect m s = .ok (built m s) :=
  (buildEffect_ok_iff _ _ _).mpr ⟨he, hv, rfl⟩

@[simp] theorem scheduled_cfg (s : State) (src dst : TsReg) (dly : Nat) : (scheduled s src dst dly).cfg = s.cfg := rfl

theorem scheduled_tsValid (s : State) (src dst q : TsReg) (dly : Nat) :
    tsValid (scheduled s src dst dly) q = (decide (q = dst) || tsValid s q) := setTs_tsValid s dst q _

/-- A good AwaitPoll step as a whole: the Response scheduled, built and sent (R216). -/
theorem gotPoll_eq (s : State) :
    gotPoll s = .ok (sendDelayed (finalWindow (radioWriteTxFrame (built .resp
      (scheduled (stampRx s .pollRx) .pollRx .respTx (respDlyDtu s.cfg))))) (s.cfg.variant ≠ .singleSided)
      .sendResponse) := by
  have hp : tsValid (stampRx s .pollRx) .pollRx = true := by simp [stampRx, setTs_tsValid]
  unfold gotPoll
  rw [txschedEffect_eq (m := .resp) (by simp [msgExists]) rfl hp]
  simp only [bind, Except.bind]
  rw [buildEffect_eq (m := .resp) (by simp [msgExists])
    (by simp [embedded, tsAllValid, scheduled_tsValid, hp])]
  have e : ∀ u : State, (finalWindow (radioWriteTxFrame u)).cfg = u.cfg := by
    intro u; unfold finalWindow; split <;> rfl
  simp only [e, pure, Except.pure]
  rfl

/-- The rest of the compute step that sends the Final, as a whole (R214). -/
theorem sendFinal_eq {s : State} (hn : s.cfg.variant ≠ .singleSided)
    (h1 : tsValid s .pollTx = true) (h2 : tsValid s .respRx = true) :
    sendFinal s = .ok (sendDelayed (radioWriteTxFrame (built .final
      (scheduled s .respRx .finalTx (finalDlyDtu s.cfg)))) false .sendFinal) := by
  unfold sendFinal
  rw [txschedEffect_eq (m := .final) (by simp [msgExists, hn]) rfl h2]
  simp only [bind, Except.bind]
  rw [buildEffect_eq (m := .final) (by simp [msgExists, hn])
    (by simp [embedded, tsAllValid, scheduled_tsValid, h1, h2])]
  rfl

/-! The receive step as a whole. -/

/-- The bytes of the frame that `read_frame` answers with. -/
def frameRead (s : State) : List Byte := (nextAnswer s.env.answers.frame Config.freeFrame s.env.free).1.take 1023

theorem radioReadFrame_eq (s : State) :
    radioReadFrame s = { s with
      mem := memWrite s.mem .rx 0 (rxBytes (frameRead s)), rxLen := BitVec.ofNat 10 (frameRead s).length,
      env := { s.env with
        answers := { s.env.answers with
          frame := (nextAnswer s.env.answers.frame Config.freeFrame s.env.free).2.1 },
        free := (nextAnswer s.env.answers.frame Config.freeFrame s.env.free).2.2,
        calls := s.env.calls ++ [.readFrame] } } := by
  simp [radioReadFrame, frameRead, call, withAnswers, storeBytes]

/-- What reading a frame leaves (R257). -/
theorem radioReadFrame_frame (s : State) :
    ∃ m l e, radioReadFrame s = { s with mem := m, rxLen := l, env := e } ∧ envKept s.env e ∧
      (s.mem.wf = true → m.wf = true) ∧ (s.mem.inBuffers = true → m.inBuffers = true) := by
  rw [radioReadFrame_eq]
  exact ⟨_, _, _, rfl, rfl, fun w => memWrite_wf w _ _ _, fun w => memWrite_inBuffers w _ _ _ (by
    rw [rxBytes_length]; decide)⟩

theorem lookedAt_eq (s : State) (rest : List Word) :
    lookedAt s rest = { s with env := { s.env with answers := { s.env.answers with status := rest } } } := rfl

theorem rxStatusState_eq (s : State) (st : Word) (rest : List Word) :
    rxStatusState s st rest = { s with env := { s.env with
      answers := { s.env.answers with status := rest },
      calls := s.env.calls ++ [.waitStatus rxMask] ++ [.clearStatus (st &&& rxMask)] } } := rfl

theorem txDoneState_eq (s : State) (rest : List Word) :
    txDoneState s rest = { s with seq := s.seq + 1, env := { s.env with
      answers := { s.env.answers with status := rest },
      calls := s.env.calls ++ [.waitStatus txDoneMask] ++ [.clearStatus txDoneMask] } } := by
  simp [txDoneState, bumpSeq, radioClearStatus, call, lookedAt, withAnswers]

theorem lookedAt_frame (s : State) (rest : List Word) :
    ∃ e, lookedAt s rest = { s with env := e } ∧ envKept s.env e := ⟨_, lookedAt_eq s rest, rfl⟩

theorem rxStatusState_frame (s : State) (st : Word) (rest : List Word) :
    ∃ e, rxStatusState s st rest = { s with env := e } ∧ envKept s.env e := ⟨_, rxStatusState_eq s st rest, rfl⟩

theorem txDoneState_frame (s : State) (rest : List Word) :
    ∃ e, txDoneState s rest = { s with seq := s.seq + 1, env := e } ∧ envKept s.env e :=
  ⟨_, txDoneState_eq s rest, rfl⟩

theorem radioReadSts_frame (s : State) :
    ∃ e, (radioReadSts s).2 = { s with env := e } ∧ envKept s.env e := ⟨(radioReadSts s).2.env, rfl, rfl⟩

/-- A receive wait step: nothing but the environment changes, or the error is entered, or the rest of the step
succeeds from a state whose frame was validated, or would raise a command fault. -/
theorem rxWait_frame (msg : Msg) (go : State → Except CmdFault State) (s : State) :
    ∃ e, envKept s.env e ∧
      (rxWait msg go s = s ∨ rxWait msg go s = { s with env := e } ∨
       (∃ k mask, rxWait msg go s = raiseErr { s with env := e } k mask) ∨
       ∃ m l, (s.mem.wf = true → m.wf = true) ∧ (s.mem.inBuffers = true → m.inBuffers = true) ∧
        (rxWait msg go s = raiseErr { s with mem := m, rxLen := l, vok := false, env := e } .badFrameHeader 0 ∨
         ∃ t, go { s with mem := m, rxLen := l, vok := true, env := e } = .ok t ∧ rxWait msg go s = t)) := by
  rcases rxWait_cases msg go s with h | ⟨st, rest, -, h | ⟨-, ⟨k, mask, -, h⟩ | ⟨-, h⟩⟩⟩
  · exact ⟨s.env, rfl, .inl h⟩
  · obtain ⟨e, f, k⟩ := lookedAt_frame s rest
    exact ⟨e, k, .inr (.inl (h.trans f))⟩
  · obtain ⟨e, f, ke⟩ := rxStatusState_frame s st rest
    rw [f] at h
    exact ⟨e, ke, .inr (.inr (.inl ⟨k, mask, h⟩))⟩
  · obtain ⟨e1, f1, k1⟩ := rxStatusState_frame s st rest
    obtain ⟨e2, f2, k2⟩ := radioReadSts_frame { s with env := e1 }
    obtain ⟨m, l, e, f, k, w, b⟩ := radioReadFrame_frame { s with env := e2 }
    rw [f1] at h
    have g := rxGood_cases msg go { s with env := e1 }
    rw [f2, f] at g
    rcases g with ⟨-, g⟩ | ⟨-, -, g⟩ | ⟨-, -, -, g⟩ | ⟨-, -, -, g⟩ <;> rw [g] at h
    · exact ⟨e2, k1.trans k2, .inr (.inr (.inl ⟨_, _, h⟩))⟩
    · exact ⟨s.env, rfl, .inl h⟩
    · exact ⟨e, k1.trans (k2.trans k), .inr (.inr (.inr ⟨m, l, w, b, .inl h⟩))⟩
    · generalize hg : go _ = x at h
      cases x with
      | error c => exact ⟨s.env, rfl, .inl h⟩
      | ok t => exact ⟨e, k1.trans (k2.trans k), .inr (.inr (.inr ⟨m, l, w, b, .inr ⟨t, hg, h⟩⟩))⟩

/-- A send wait step: nothing but the environment changes, or it goes on with SEQ advanced. -/
theorem txWait_frame (next : State → State) (s : State) :
    ∃ e, envKept s.env e ∧
      (txWait s next = s ∨ txWait s next = { s with env := e } ∨
       txWait s next = next { s with seq := s.seq + 1, env := e }) := by
  rcases txWait_cases s next with h | ⟨st, rest, -, h | ⟨-, h⟩⟩
  · exact ⟨s.env, rfl, .inl h⟩
  · obtain ⟨e, f, k⟩ := lookedAt_frame s rest
    exact ⟨e, k, .inr (.inl (h.trans f))⟩
  · obtain ⟨e, f, k⟩ := txDoneState_frame s rest
    rw [f] at h
    exact ⟨e, k, .inr (.inr h)⟩

/-! Compute steps. -/

/-- What TOFSS leaves. -/
theorem tofssEffect_frame {s t : State} (h : tofssEffect s = .ok t) :
    ∃ a b c w n, t = { s with
      tofDtu := a, tofS := b, distM := c, resultValid := true, wrapFlag := w, env := { s.env with free := n } } :=
  ⟨_, _, _, _, _, ((tofssEffect_ok_iff _ _).mp h).2⟩

/-- What TOFDS leaves. -/
theorem tofdsEffect_frame {s t : State} (h : tofdsEffect s = .ok t) :
    ∃ a b c w n, t = { s with
      tofDtu := a, tofS := b, distM := c, resultValid := true, wrapFlag := w, env := { s.env with free := n } } :=
  ⟨_, _, _, _, _, ((tofdsEffect_ok_iff _ _).mp h).2⟩

/-- What DURMS and PDOACVT, as the build enables them, leave. -/
theorem sideOutputs_frame {a b : TsReg} {s t : State} (h : sideOutputs a b s = .ok t) :
    ∃ d dv p pv, t = { s with durMs := d, durValid := dv, pdoaDeg := p, pdoaValid := pv } := by
  unfold sideOutputs at h
  obtain ⟨u, hu, h⟩ : ∃ u, (if s.cfg.durEn then durmsEffect a b s else .ok s) = .ok u ∧
      (if u.cfg.pdoaEn then pdoacvtEffect u else .ok u) = .ok t := by
    cases hd : (if s.cfg.durEn then durmsEffect a b s else .ok s) with
    | error e =>
      simp only [bind, Except.bind, pure, Except.pure] at h
      split at hd <;> simp_all
    | ok u =>
      simp only [bind, Except.bind, pure, Except.pure] at h
      refine ⟨u, rfl, ?_⟩
      split at hd <;> simp_all
  obtain ⟨d, dv, rfl⟩ : ∃ d dv, u = { s with durMs := d, durValid := dv } := by
    split at hu
    · exact ⟨_, _, ((durmsEffect_ok_iff _ _ _ _).mp hu).2⟩
    · exact ⟨_, _, (Except.ok.inj hu).symm⟩
  split at h
  · exact ⟨d, dv, _, _, (Except.ok.inj h).symm⟩
  · exact ⟨d, dv, _, _, (Except.ok.inj h).symm⟩

/-- DURMS and PDOACVT, as the build enables them, as a whole (R212, R222). -/
theorem sideOutputs_eq {a b : TsReg} {s : State} (h : tsAllValid s [a, b] = true) :
    sideOutputs a b s = .ok { s with
      durMs := if s.cfg.durEn then durationMs (d40 s a b) else s.durMs
      durValid := s.cfg.durEn || s.durValid
      pdoaDeg := if s.cfg.pdoaEn then pdoaDegrees s.pdoaRaw else s.pdoaDeg
      pdoaValid := s.cfg.pdoaEn || s.pdoaValid } := by
  unfold sideOutputs
  rw [(durmsEffect_ok_iff a b s _).mpr ⟨h, rfl⟩]
  cases h1 : s.cfg.durEn <;> cases h2 : s.cfg.pdoaEn <;>
    simp [bind, Except.bind, pure, Except.pure, h2, pdoacvtEffect]

/-- What the Responder's compute step leaves (R222). -/
theorem computeResponder_ok {s t : State} (h : computeResponder s = .ok t) :
    ∃ a b c w n d dv p pv, t = endCycle { s with
      tofDtu := a, tofS := b, distM := c, resultValid := true, wrapFlag := w, durMs := d, durValid := dv
      pdoaDeg := p, pdoaValid := pv, env := { s.env with free := n } } := by
  unfold computeResponder at h
  simp only [bind, Except.bind, pure, Except.pure] at h
  split at h
  · cases h
  rename_i u hu
  obtain ⟨a, b, c, w, n, rfl⟩ := tofdsEffect_frame hu
  clear hu
  split at h
  · cases h
  rename_i v hv
  obtain ⟨d, dv, p, pv, rfl⟩ := sideOutputs_frame hv
  exact ⟨a, b, c, w, n, d, dv, p, pv, (Except.ok.inj h).symm⟩

/-- The Responder's compute step as a whole: the result, the side outputs, the end of the cycle, and no message
(R222). -/
theorem computeResponder_eq {s : State} (h : tsAllValid s [.pollTx, .pollRx, .respTx, .respRx, .finalTx, .finalRx] = true) :
    computeResponder s = .ok (endCycle { setResults s (tofDsDtu s) with
      wrapFlag := longPair s .respTx .pollRx || longPair s .finalRx .respTx
      durMs := if s.cfg.durEn then durationMs (d40 s .pollRx .finalRx) else s.durMs
      durValid := s.cfg.durEn || s.durValid
      pdoaDeg := if s.cfg.pdoaEn then pdoaDegrees s.pdoaRaw else s.pdoaDeg
      pdoaValid := s.cfg.pdoaEn || s.pdoaValid }) := by
  have h2 : tsAllValid s [.pollRx, .finalRx] = true := by
    simp only [tsAllValid, List.all_cons, List.all_nil, Bool.and_true, Bool.and_eq_true] at h ⊢
    exact ⟨h.2.1, h.2.2.2.2.2⟩
  have hu := (tofdsEffect_ok_iff s _).mpr ⟨h, rfl⟩
  have hv := sideOutputs_eq (a := .pollRx) (b := .finalRx) (s := { setResults s (tofDsDtu s) with
    wrapFlag := longPair s .respTx .pollRx || longPair s .finalRx .respTx }) h2
  unfold computeResponder
  rw [hu]
  exact congrArg (fun x => x.bind fun t => Except.ok (endCycle t)) hv

/-- What the Initiator's compute step leaves (R212): the result delivered, and then the end of the cycle or the
Final. -/
theorem computeInitiator_ok {s t : State} (h : computeInitiator s = .ok t) :
    ∃ u a b c w n d dv p pv, u = { s with
        tofDtu := a, tofS := b, distM := c, resultValid := true, wrapFlag := w, durMs := d, durValid := dv
        pdoaDeg := p, pdoaValid := pv, env := { s.env with free := n, sink := s.env.sink ++ resultMessage c } } ∧
      ((s.cfg.variant = .singleSided ∧ t = endCycle u) ∨
       (s.cfg.variant ≠ .singleSided ∧ sendFinal u = .ok t)) := by
  unfold computeInitiator at h
  simp only [bind, Except.bind, pure, Except.pure] at h
  split at h
  · cases h
  rename_i u hu
  obtain ⟨a, b, c, w, n, rfl⟩ := tofssEffect_frame hu
  clear hu
  split at h
  · cases h
  rename_i v hv
  obtain ⟨d, dv, p, pv, rfl⟩ := sideOutputs_frame hv
  clear hv
  split at h
  · cases h
  rename_i x hx
  obtain ⟨-, rfl⟩ := (deliverEffect_ok_iff _ _).mp hx
  clear hx
  refine ⟨_, a, b, c, w, n, d, dv, p, pv, rfl, ?_⟩
  by_cases hs : s.cfg.variant = .singleSided
  · simp only [emit, hs, if_true] at h
    exact .inl ⟨hs, (Except.ok.inj h).symm⟩
  · simp only [emit, hs, if_false] at h
    exact .inr ⟨hs, h⟩

/-! The cycle-start step. -/

/-- What programming the radio's STS leaves (R185). -/
theorem armCycle_frame (s : State) :
    ∃ e, armCycle s = { s with firstCycle := false, env := e } ∧ envKept s.env e := by
  unfold armCycle
  split
  · exact ⟨(radioSetStsIv (radioSetStsKey s)).env, rfl, rfl⟩
  · rename_i h
    refine ⟨(radioSetStsIvLow s).env, ?_, rfl⟩
    cases s
    simp only [Bool.not_eq_true] at h
    subst h
    rfl

/-- What consuming the mailbox leaves (R184). -/
theorem applyKey_frame (s : State) :
    ∃ mat f, applyKey s = { s with mat := mat, firstCycle := f, pend := { s.pend with valid := false } } := by
  unfold applyKey
  split
  · exact ⟨_, _, rfl⟩
  · rename_i h
    refine ⟨s.mat, s.firstCycle, ?_⟩
    have : s.pend = { s.pend with valid := false } := by
      cases hp : s.pend
      simp_all
    rw [← this]

/-- What steps 1 to 4 of the cycle-start step leave (R202). -/
theorem cycleHead_frame (s : State) :
    ∃ mat e, envKept s.env e ∧ cycleHead s = { s with
      mat := mat, pend := { s.pend with valid := false }, ts := (clearTs s).ts, resultValid := false
      pdoaValid := false, durValid := false, vok := false, wrapFlag := false, firstCycle := false, env := e } := by
  unfold cycleHead
  obtain ⟨mat, f, ha⟩ := applyKey_frame s
  rw [ha]
  obtain ⟨e, hc, k⟩ := armCycle_frame { clearTs { s with
    mat := mat, firstCycle := f, pend := { s.pend with valid := false } } with
      resultValid := false, pdoaValid := false, durValid := false, vok := false, wrapFlag := false }
  rw [hc]
  exact ⟨mat, e, k, rfl⟩

/-- Steps 1 to 4 of the cycle-start step as a whole: a post consumed, the valid bits cleared, the STS programmed in
full on a first cycle or after a post and else with `IV[0]` alone (R202, R184, R185). -/
theorem cycleHead_eq (s : State) :
    let k := if s.pend.valid then materialOf s.cfg.role s.pend else s.mat
    cycleHead s = { s with
      mat := k, pend := { s.pend with valid := false }, ts := (clearTs s).ts, resultValid := false
      pdoaValid := false, durValid := false, vok := false, wrapFlag := false, firstCycle := false
      env := { s.env with calls := s.env.calls ++
        if s.firstCycle || s.pend.valid then [.setStsKey k.key, .setStsIv k.iv] else [.setStsIvLow k.iv.w0] } } := by
  have h : cycleHead s = armCycle { clearTs (applyKey s) with
      resultValid := false, pdoaValid := false, durValid := false, vok := false, wrapFlag := false } := rfl
  rw [h]
  rcases hp : s.pend with ⟨pv, pk, pi, pd, ps⟩
  cases pv <;> cases hf : s.firstCycle <;>
    simp [applyKey, armCycle, clearTs, hp, hf, radioSetStsIv, radioSetStsKey, radioSetStsIvLow, call]

theorem sendPollRadio_frame (s : State) (a b : Nat) :
    ∃ e, (radioArmTx (radioSetRxParams (radioWriteTxFrame s) a b) .immediate true).2 = { s with env := e } ∧
      envKept s.env e :=
  ⟨(radioArmTx (radioSetRxParams (radioWriteTxFrame s) a b) .immediate true).2.env, rfl, rfl⟩

theorem armForPoll_frame (s : State) :
    ∃ e, armForPoll s = { s with phase := .awaitPoll, env := e } ∧ envKept s.env e :=
  ⟨(armForPoll s).env, rfl, rfl⟩

/-- What the cycle-start step leaves (R202, R204, R208). -/
theorem cycleStart_ok {s t : State} (h : cycleStart s = .ok t) :
    ∃ mat m len e, envKept s.env e ∧ (s.mem.wf = true → m.wf = true) ∧
      (s.mem.wf = true → s.mem.inBuffers = true → m.inBuffers = true) ∧ (len = s.txLen ∨ len = 12) ∧
      t = { s with
        phase := (match s.cfg.role with | .initiator => .sendPoll | .responder => .awaitPoll)
        mat := mat, pend := { s.pend with valid := false }, ts := (clearTs s).ts, resultValid := false
        pdoaValid := false, durValid := false, vok := false, wrapFlag := false, firstCycle := false
        mem := m, txLen := len, env := e } := by
  obtain ⟨mat, e, k, hh⟩ := cycleHead_frame s
  unfold cycleStart at h
  rw [hh] at h
  cases hr : s.cfg.role with
  | initiator =>
    simp only [hr, sendPoll, bind, Except.bind, pure, Except.pure] at h
    split at h
    · cases h
    rename_i u hu
    obtain ⟨mem, rfl, w1, w2⟩ := buildEffect_frame hu
    obtain ⟨e', f, k'⟩ := sendPollRadio_frame { s with
      mat := mat, pend := { s.pend with valid := false }, ts := (clearTs s).ts, resultValid := false
      pdoaValid := false, durValid := false, vok := false, wrapFlag := false, firstCycle := false
      mem := mem, txLen := BitVec.ofNat 5 (frameLen .poll), env := e } s.cfg.pollTxToRespRxDly s.cfg.respRxTimeout
    have h := (Except.ok.inj h).symm
    rw [f] at h
    exact ⟨mat, mem, 12, e', k.trans k', w1, w2, .inr rfl, h⟩
  | responder =>
    simp only [hr] at h
    obtain ⟨e', f, k'⟩ := armForPoll_frame { s with
      mat := mat, pend := { s.pend with valid := false }, ts := (clearTs s).ts, resultValid := false
      pdoaValid := false, durValid := false, vok := false, wrapFlag := false, firstCycle := false, env := e }
    have h := (Except.ok.inj h).symm
    rw [f] at h
    exact ⟨mat, s.mem, s.txLen, e', k.trans k', id, fun _ => id, .inl rfl, h⟩

/-- The state in which the Poll has been built, handed over and sent at once (R204). -/
def pollSent (s : State) : State :=
  { s with
    phase := .sendPoll, mem := (built .poll s).mem, txLen := 12
    env := { s.env with calls := s.env.calls ++
      [.writeTxFrame (memRead (built .poll s).mem .tx 0 12) 12,
        .setRxParams s.cfg.pollTxToRespRxDly s.cfg.respRxTimeout s.cfg.preTimeoutPac, .armTx .immediate true] } }

theorem sendPoll_eq (s : State) : sendPoll s = .ok (pollSent s) := by
  have h : built .poll s = { s with mem := (built .poll s).mem, txLen := 12 } := built_eq .poll s
  unfold sendPoll pollSent
  rw [buildEffect_eq (m := .poll) rfl rfl]
  generalize (built .poll s).mem = m at *
  rw [h]
  simp [bind, Except.bind, pure, Except.pure, radioArmTx, radioSetRxParams, radioWriteTxFrame, call]

/-- The cycle-start step as a whole: it raises no command fault (R202, R204, R208). -/
theorem cycleStart_eq (s : State) :
    cycleStart s = .ok (match s.cfg.role with
      | .initiator => pollSent (cycleHead s)
      | .responder => armForPoll (cycleHead s)) := by
  unfold cycleStart
  cases s.cfg.role
  · exact sendPoll_eq _
  · rfl

/-- The sequencer's turn in Idle: the cycle-start step under AUTO, else nothing (R203). -/
theorem seqStep_idle {s : State} (h : s.phase = .idle) :
    seqStep s = if s.auto then seqOutcome s (cycleStart s) else s := by
  simp [seqStep, h]

/-- The init step (R321). -/
theorem initStep_cases (s : State) :
    ∃ e, envKept s.env e ∧
      (initStep s = { s with phase := .idle, env := e } ∨
       ∃ c : Byte, (c = 1 ∨ c = 2) ∧ initStep s = { s with phase := .fatal, fatalCode := c, env := e }) := by
  unfold initStep
  refine ⟨(radioConfigure s).2.env, rfl, ?_⟩
  cases h : (radioConfigure s).1 with
  | ok => exact .inl (by simp only [h]; rfl)
  | notResponding => exact .inr ⟨1, .inl rfl, by simp only [h]; rfl⟩
  | rejected => exact .inr ⟨2, .inr rfl, by simp only [h]; rfl⟩

/-! A receive step whose answers are at hand. -/

theorem and_rxMask_of_good {st : Word} (h : st.getLsbD 1 = true) : st &&& rxMask ≠ 0 := by
  intro hz
  have := congrArg (fun x : Word => x.getLsbD 1) hz
  simp [rxMask] at this
  simp [this] at h

theorem and_txDoneMask_of_done {st : Word} (h : st.getLsbD 0 = true) : st &&& txDoneMask ≠ 0 := by
  intro hz
  have := congrArg (fun x : Word => x.getLsbD 0) hz
  simp [txDoneMask] at this
  simp [this] at h

theorem classify_good {st : Word} (h : st.getLsbD 1 = true) : classify st = .good := by simp [classify, h]

/-- The bytes RXBUF holds after a frame has been read. -/
theorem bufByte_rxBytes {m : Memory} (hw : m.wf = true) (f : List Byte) {i : Nat} (hi : i < 24) :
    bufByte (memWrite m .rx 0 (rxBytes f)) .rx i = f.getD i 0 := by
  unfold bufByte
  rw [read_memWrite hw, rxBytes_length, if_pos (by simp [Buf.base]; omega)]
  have : Buf.rx.base + i - (Buf.rx.base + 0) = i := by omega
  rw [this]
  unfold rxBytes
  by_cases h : i < f.length
  · simp [List.getElem?_append_left, h, hi]
  · rw [List.getD_eq_getElem?_getD, List.getElem?_append_right (by simp; omega), List.getElem?_replicate]
    simp [h]
    split <;> rfl

/-- The state in which a receive step has read a frame, before VALIDATE. -/
def frameInHand (s : State) (st : Word) (rest : List Word) (qs : List StsAnswer) (f : List Byte)
    (fs : List (List Byte)) : State :=
  { s with
    mem := memWrite s.mem .rx 0 (rxBytes f), rxLen := BitVec.ofNat 10 f.length
    env := { s.env with
      answers := { s.env.answers with status := rest, sts := qs, frame := fs }
      calls := s.env.calls ++ [.waitStatus rxMask] ++ [.clearStatus (st &&& rxMask)] ++ [.readStsQuality] ++
        [.readFrame] } }

/-- With a good status, a good STS and a frame at hand, a receive step goes on from `frameInHand`: the rest of the
step when the frame matches, else the error. -/
theorem rxWait_frameInHand (m : Msg) (go : State → Except CmdFault State) {s : State} {st : Word} {rest : List Word}
    {q : StsAnswer} {qs : List StsAnswer} {f : List Byte} {fs : List (List Byte)}
    (hs : s.env.answers.status = st :: rest) (hg : st.getLsbD 1 = true)
    (hq : s.env.answers.sts = q :: qs) (ha : stsAccepted q = true)
    (hf : s.env.answers.frame = f :: fs) (hl : f.length ≤ 1023) (hm : msgExists s.cfg m = true) :
    rxWait m go s =
      if frameMatches m (frameInHand s st rest qs f fs) then
        seqOutcome s (go { frameInHand s st rest qs f fs with vok := true })
      else raiseErr { frameInHand s st rest qs f fs with vok := false } .badFrameHeader 0 := by
  have e := rxStatusState_eq s st rest
  unfold rxStatusState at e
  have hgood : rxGood m go (rxStatusState s st rest) =
      (do
        let u ← validateEffect m (frameInHand s st rest qs f fs)
        if u.vok then go u else return raiseErr u .badFrameHeader 0) := by
    rw [rxStatusState_eq]
    simp [rxGood, radioReadFrame_eq, radioReadSts, hq, nextAnswer, ha, frameRead, hf, List.take_of_length_le hl, call,
      withAnswers, frameInHand]
  unfold rxWait
  simp only [radioWaitStatus_return hs (and_rxMask_of_good hg), classify_good hg]
  rw [← rxStatusState, hgood]
  have hx : msgExists (frameInHand s st rest qs f fs).cfg m = true := hm
  cases hz : frameMatches m (frameInHand s st rest qs f fs) <;>
    simp [validateEffect, needMsg, hx, hz, bind, Except.bind, pure, Except.pure, seqOutcome]

end Sys2Proof.Machine
end

