-- ==== Sys2Proof/Laws/Step.lean ====
section
/-! SUPPORT. One step of the machine: what each input can do, said once. -/

namespace Sys2Proof.Machine

/-! Commands. -/

/-- What a command does once it is accepted. -/
def commandEffect (i : Instr) (s : State) : Except CmdFault State :=
  match i with
  | .enc32 ts off => do enc32Effect (← tsOperand ts) off.toNat s
  | .dec32 ts off => do dec32Effect (← tsOperand ts) off.toNat s
  | .txsched msg => do txschedEffect (← msgOperand msg) s
  | .build msg => do buildEffect (← msgOperand msg) s
  | .validate msg => do validateEffect (← msgOperand msg) s
  | .tofss => tofssEffect s
  | .tofds => tofdsEffect s
  | .pdoacvt => pdoacvtEffect s
  | .durms a b => do durmsEffect (← tsOperand a) (← tsOperand b) s
  | .postkey => postkeyEffect s
  | .applykey => .ok (applyKey s)
  | .armcyc => .ok (armCycle s)
  | .seqinc => .ok (bumpSeq s)
  | .errinc kind mask => do return countError s (← kindOperand kind) mask
  | .tsclr => .ok (clearTs s)
  | .deliver => deliverEffect s
  | .run => cycleStart s

/-- POSTKEY is accepted in every phase but Fatal, every other command in Idle only (R97). -/
theorem exec_eq (i : Instr) (s : State) :
    exec i s = .next (if i = .postkey then anytimeCommand s (commandEffect i) else idleCommand s (commandEffect i)) := by
  cases i <;> rfl

/-- A command is dropped, faults, or has its effect. -/
theorem exec_cases (i : Instr) (s : State) :
    (s.phase = .fatal ∧ exec i s = .next s) ∨
    (s.phase ≠ .fatal ∧ ∃ c, exec i s = .next (raiseCmdFault s c)) ∨
    ((s.phase = .idle ∨ (i = .postkey ∧ s.phase ≠ .fatal)) ∧
      ∃ t, commandEffect i s = .ok t ∧ exec i s = .next { t with cmdFault := .noFault }) := by
  rw [exec_eq]
  by_cases hi : i = .postkey
  · subst hi
    by_cases hf : s.phase = .fatal
    · exact .inl ⟨hf, by simp [anytimeCommand, hf]⟩
    · exact .inr (.inr ⟨.inr ⟨rfl, hf⟩, _, rfl, by simp [anytimeCommand, hf, commandEffect, postkeyEffect, finishCommand]⟩)
  · rw [if_neg hi]
    rcases idleCommand_cases s (commandEffect i) with ⟨hf, h⟩ | ⟨hf, c, h⟩ | ⟨hf, t, ht, h⟩ <;> rw [h]
    · exact .inl ⟨hf, rfl⟩
    · exact .inr (.inl ⟨hf, c, rfl⟩)
    · exact .inr (.inr ⟨.inl hf, t, ht, rfl⟩)

theorem tsOperand_bind_ok {α : Type} {a : Byte} {f : TsReg → Except CmdFault α} {x : α}
    (h : (do f (← tsOperand a)) = .ok x) : ∃ r, tsReg? a = some r ∧ f r = .ok x := by
  unfold tsOperand at h
  cases ht : tsReg? a with
  | none => simp [ht, bind, Except.bind] at h
  | some r => exact ⟨r, rfl, by simpa [ht, bind, Except.bind] using h⟩

theorem msgOperand_bind_ok {α : Type} {a : Byte} {f : Msg → Except CmdFault α} {x : α}
    (h : (do f (← msgOperand a)) = .ok x) : ∃ r, msg? a = some r ∧ f r = .ok x := by
  unfold msgOperand at h
  cases ht : msg? a with
  | none => simp [ht, bind, Except.bind] at h
  | some r => exact ⟨r, rfl, by simpa [ht, bind, Except.bind] using h⟩

theorem kindOperand_bind_ok {α : Type} {a : Byte} {f : ErrKind → Except CmdFault α} {x : α}
    (h : (do f (← kindOperand a)) = .ok x) : ∃ r, errKind? a = some r ∧ f r = .ok x := by
  unfold kindOperand at h
  cases ht : errKind? a with
  | none => simp [ht, bind, Except.bind] at h
  | some r => exact ⟨r, rfl, by simpa [ht, bind, Except.bind] using h⟩

theorem frameLen_length (m : Msg) :
    BitVec.ofNat 5 (frameLen m) = 12 ∨ BitVec.ofNat 5 (frameLen m) = 20 ∨ BitVec.ofNat 5 (frameLen m) = 24 := by
  cases m <;> decide

/-- What no command changes, and what every command keeps in form. -/
theorem commandEffect_kept {i : Instr} {s t : State} (h : commandEffect i s = .ok t) :
    t.cfg = s.cfg ∧ t.auto = s.auto ∧ t.fatalCode = s.fatalCode ∧ t.rxLen = s.rxLen ∧ t.kRaw = s.kRaw ∧
      t.pdoaRaw = s.pdoaRaw ∧ t.env.inputs = s.env.inputs ∧ t.env.readBack = s.env.readBack ∧
      (i ≠ .run → t.phase = s.phase) ∧
      (s.mem.wf = true → t.mem.wf = true) ∧ (s.mem.wf = true → s.mem.inBuffers = true → t.mem.inBuffers = true) ∧
      (t.txLen = s.txLen ∨ t.txLen = 12 ∨ t.txLen = 20 ∨ t.txLen = 24) := by
  cases i with
  | enc32 ts off =>
    obtain ⟨r, -, h⟩ := tsOperand_bind_ok h
    obtain ⟨ho, -, rfl⟩ := (enc32Effect_ok_iff _ _ _ _).mp h
    exact ⟨rfl, rfl, rfl, rfl, rfl, rfl, rfl, rfl, fun _ => rfl, fun w => memWrite_wf w _ _ _,
      fun _ w => memWrite_inBuffers w _ _ _ ho, .inl rfl⟩
  | dec32 ts off =>
    obtain ⟨r, -, h⟩ := tsOperand_bind_ok h
    obtain ⟨ho, rfl⟩ := (dec32Effect_ok_iff _ _ _ _).mp h
    exact ⟨rfl, rfl, rfl, rfl, rfl, rfl, rfl, rfl, fun _ => rfl, id, fun _ => id, .inl rfl⟩
  | txsched msg =>
    obtain ⟨r, -, h⟩ := msgOperand_bind_ok h
    obtain ⟨_, _, _, _, _, -, rfl⟩ := txschedEffect_frame h
    exact ⟨rfl, rfl, rfl, rfl, rfl, rfl, rfl, rfl, fun _ => rfl, id, fun _ => id, .inl rfl⟩
  | build msg =>
    obtain ⟨r, -, h⟩ := msgOperand_bind_ok h
    obtain ⟨m, rfl, w, b⟩ := buildEffect_frame h
    exact ⟨rfl, rfl, rfl, rfl, rfl, rfl, rfl, rfl, fun _ => rfl, w, b, .inr (frameLen_length r)⟩
  | validate msg =>
    obtain ⟨r, -, h⟩ := msgOperand_bind_ok h
    obtain ⟨-, rfl⟩ := (validateEffect_ok_iff _ _ _).mp h
    exact ⟨rfl, rfl, rfl, rfl, rfl, rfl, rfl, rfl, fun _ => rfl, id, fun _ => id, .inl rfl⟩
  | tofss =>
    obtain ⟨_, _, _, _, _, rfl⟩ := tofssEffect_frame h
    exact ⟨rfl, rfl, rfl, rfl, rfl, rfl, rfl, rfl, fun _ => rfl, id, fun _ => id, .inl rfl⟩
  | tofds =>
    obtain ⟨_, _, _, _, _, rfl⟩ := tofdsEffect_frame h
    exact ⟨rfl, rfl, rfl, rfl, rfl, rfl, rfl, rfl, fun _ => rfl, id, fun _ => id, .inl rfl⟩
  | pdoacvt =>
    cases h
    exact ⟨rfl, rfl, rfl, rfl, rfl, rfl, rfl, rfl, fun _ => rfl, id, fun _ => id, .inl rfl⟩
  | durms a b =>
    obtain ⟨r, -, h⟩ := tsOperand_bind_ok h
    obtain ⟨q, -, h⟩ := tsOperand_bind_ok h
    obtain ⟨-, rfl⟩ := (durmsEffect_ok_iff _ _ _ _).mp h
    exact ⟨rfl, rfl, rfl, rfl, rfl, rfl, rfl, rfl, fun _ => rfl, id, fun _ => id, .inl rfl⟩
  | postkey =>
    cases h
    exact ⟨rfl, rfl, rfl, rfl, rfl, rfl, rfl, rfl, fun _ => rfl, id, fun _ => id, .inl rfl⟩
  | applykey =>
    obtain ⟨_, _, hf⟩ := applyKey_frame s
    rw [← Except.ok.inj h, hf]
    exact ⟨rfl, rfl, rfl, rfl, rfl, rfl, rfl, rfl, fun _ => rfl, id, fun _ => id, .inl rfl⟩
  | armcyc =>
    obtain ⟨e, hf, k⟩ := armCycle_frame s
    rw [← Except.ok.inj h, hf, k]
    exact ⟨rfl, rfl, rfl, rfl, rfl, rfl, rfl, rfl, fun _ => rfl, id, fun _ => id, .inl rfl⟩
  | seqinc =>
    cases h
    exact ⟨rfl, rfl, rfl, rfl, rfl, rfl, rfl, rfl, fun _ => rfl, id, fun _ => id, .inl rfl⟩
  | errinc kind mask =>
    obtain ⟨r, -, h⟩ := kindOperand_bind_ok h
    cases h
    exact ⟨rfl, rfl, rfl, rfl, rfl, rfl, rfl, rfl, fun _ => rfl, id, fun _ => id, .inl rfl⟩
  | tsclr =>
    cases h
    exact ⟨rfl, rfl, rfl, rfl, rfl, rfl, rfl, rfl, fun _ => rfl, id, fun _ => id, .inl rfl⟩
  | deliver =>
    obtain ⟨-, rfl⟩ := (deliverEffect_ok_iff _ _).mp h
    exact ⟨rfl, rfl, rfl, rfl, rfl, rfl, rfl, rfl, fun _ => rfl, id, fun _ => id, .inl rfl⟩
  | run =>
    obtain ⟨mat, m, len, e, k, w, b, hl, rfl⟩ := cycleStart_ok h
    rw [k]
    exact ⟨rfl, rfl, rfl, rfl, rfl, rfl, rfl, rfl, fun h => absurd rfl h, w, b, hl.imp id .inl⟩

/-! Host writes. -/

/-- What a host write to a register other than CMD can change. -/
theorem writeReg_frame (s : State) (v : Word) (r : Reg) :
    ∃ au ts k p l m, writeReg s v r = { s with
        auto := au, ts := ts, kRaw := k, pdoaRaw := p, rxLen := l, mem := m } ∧
      (s.phase ≠ .idle → ts = s.ts ∧ k = s.kRaw ∧ p = s.pdoaRaw ∧ l = s.rxLen) ∧
      (s.phase = .fatal → au = s.auto ∧ m = s.mem) ∧
      (m = s.mem ∨ ∃ b a, r = .bufWord b a ∧ m = memSetWord s.mem a v) := by
  have hk : ∃ au ts k p l m, s = { s with auto := au, ts := ts, kRaw := k, pdoaRaw := p, rxLen := l, mem := m } ∧
      (s.phase ≠ .idle → ts = s.ts ∧ k = s.kRaw ∧ p = s.pdoaRaw ∧ l = s.rxLen) ∧
      (s.phase = .fatal → au = s.auto ∧ m = s.mem) ∧
      (m = s.mem ∨ ∃ b a, r = .bufWord b a ∧ m = memSetWord s.mem a v) :=
    ⟨s.auto, s.ts, s.kRaw, s.pdoaRaw, s.rxLen, s.mem, rfl, fun _ => ⟨rfl, rfl, rfl, rfl⟩, fun _ => ⟨rfl, rfl⟩, .inl rfl⟩
  have hidle {t : State} {au ts k p l m} (ht : t = { s with auto := au, ts := ts, kRaw := k, pdoaRaw := p, rxLen := l, mem := m })
      (ha : au = s.auto) (hm : m = s.mem ∨ ∃ b a, r = .bufWord b a ∧ m = memSetWord s.mem a v) :
      ∃ au ts k p l m, inIdle s t = { s with auto := au, ts := ts, kRaw := k, pdoaRaw := p, rxLen := l, mem := m } ∧
        (s.phase ≠ .idle → ts = s.ts ∧ k = s.kRaw ∧ p = s.pdoaRaw ∧ l = s.rxLen) ∧
        (s.phase = .fatal → au = s.auto ∧ m = s.mem) ∧
        (m = s.mem ∨ ∃ b a, r = .bufWord b a ∧ m = memSetWord s.mem a v) := by
    by_cases hi : s.phase = .idle
    · rw [inIdle, if_pos hi]
      exact ⟨au, ts, k, p, l, m, ht, fun h => absurd hi h, fun h => by simp [hi] at h, hm⟩
    · rw [inIdle, if_neg hi]; exact hk
  have hnf {t : State} {au m} (ht : t = { s with auto := au, mem := m })
      (hm : m = s.mem ∨ ∃ b a, r = .bufWord b a ∧ m = memSetWord s.mem a v) :
      ∃ au ts k p l m, notInFatal s t = { s with auto := au, ts := ts, kRaw := k, pdoaRaw := p, rxLen := l, mem := m } ∧
        (s.phase ≠ .idle → ts = s.ts ∧ k = s.kRaw ∧ p = s.pdoaRaw ∧ l = s.rxLen) ∧
        (s.phase = .fatal → au = s.auto ∧ m = s.mem) ∧
        (m = s.mem ∨ ∃ b a, r = .bufWord b a ∧ m = memSetWord s.mem a v) := by
    by_cases hi : s.phase = .fatal
    · rw [notInFatal, if_pos hi]; exact hk
    · rw [notInFatal, if_neg hi]
      exact ⟨au, s.ts, s.kRaw, s.pdoaRaw, s.rxLen, m, ht, fun _ => ⟨rfl, rfl, rfl, rfl⟩, fun h => absurd h hi, hm⟩
  cases r with
  | ctrl => exact hnf rfl (.inl rfl)
  | kRaw => exact hidle rfl rfl (.inl rfl)
  | pdoaRaw => exact hidle rfl rfl (.inl rfl)
  | rxLen => exact hidle rfl rfl (.inl rfl)
  | tsLo r => exact hidle rfl rfl (.inl rfl)
  | tsHi r => exact hidle rfl rfl (.inl rfl)
  | bufWord b a =>
    cases b with
    | blob => exact hnf rfl (.inr ⟨.blob, a, rfl, rfl⟩)
    | tx => exact hidle rfl rfl (.inr ⟨.tx, a, rfl, rfl⟩)
    | rx => exact hidle rfl rfl (.inr ⟨.rx, a, rfl, rfl⟩)
  | _ => exact hk

/-! The step. -/

/-- What a step that gives a next state has done: a turn of the sequencer, reset, a host read, a command word, or a
host write to a register. -/
theorem step_cases {s t : State} (h : step s = .next t) :
    (s.env.inputs = [] ∧ t = seqStep s) ∨
    ∃ x rest, s.env.inputs = x :: rest ∧
      ((x = .sequencer ∧ t = seqStep (withInputs s rest)) ∨
       (x = .reset ∧ t = resetEvent (withInputs s rest)) ∨
       (∃ a, x = .hostRead a ∧ t = { s with env :=
          { s.env with inputs := rest, readBack := s.env.readBack ++ [regRead (withInputs s rest) a] } }) ∨
       (∃ w i, x = .hostWrite 0x000 w ∧ decode w = .ok i ∧ exec i (withInputs s rest) = .next t) ∨
       (∃ w e, x = .hostWrite 0x000 w ∧ decode w = .error e ∧
          t = (if s.phase = .fatal then withInputs s rest else raiseCmdFault (withInputs s rest) .illegalOp)) ∨
       (∃ a v, x = .hostWrite a v ∧ a % 4 = 0 ∧ a ≤ 0x1B7 ∧
          ((∃ r, regAt a = some r ∧ r ≠ .cmd ∧ t = writeReg (withInputs s rest) v r) ∨
           (regAt a = none ∧ t = withInputs s rest)))) := by
  unfold step at h
  cases hi : s.env.inputs with
  | nil =>
    rw [hi] at h
    exact .inl ⟨rfl, (Host.Outcome.next.inj h).symm⟩
  | cons x rest =>
    rw [hi] at h
    refine .inr ⟨x, rest, rfl, ?_⟩
    cases x with
    | sequencer => exact .inl ⟨rfl, (Host.Outcome.next.inj h).symm⟩
    | reset => exact .inr (.inl ⟨rfl, (Host.Outcome.next.inj h).symm⟩)
    | hostRead a =>
      refine .inr (.inr (.inl ⟨a, rfl, ?_⟩))
      simp only [takeInput, hostRead, onPort] at h
      split at h
      · cases h
      split at h
      · cases h
      exact (Host.Outcome.next.inj h).symm
    | hostWrite a v =>
      refine .inr (.inr (.inr ?_))
      simp only [takeInput, hostWrite, onPort] at h
      split at h
      · cases h
      rename_i h4
      split at h
      · cases h
      rename_i hr
      split at h
      · rename_i hc
        have ha : a = 0 := by
          by_contra hne
          unfold regAt at hc
          split at hc
          · simp at hc
          split at hc
          · simp at hc
          split at hc
          · simp at hc
          simp only [regTable, List.lookup] at hc
          repeat' split at hc
          all_goals simp_all
        subst ha
        unfold runWord at h
        cases hd : decode v with
        | ok i => exact .inl ⟨v, i, rfl, hd, by simpa [hd] using h⟩
        | error e =>
          refine .inr (.inl ⟨v, e, rfl, hd, ?_⟩)
          rw [hd] at h
          have h := (Host.Outcome.next.inj h).symm
          rw [h]
          by_cases hf : s.phase = .fatal
          · rw [if_pos hf]; exact if_pos hf
          · rw [if_neg hf]; exact if_neg hf
      · rename_i r hne hr'
        exact .inr (.inr ⟨a, v, rfl, not_not.mp h4, by omega, .inl ⟨r, hr', hne, (Host.Outcome.next.inj h).symm⟩⟩)
      · rename_i hne
        exact .inr (.inr ⟨a, v, rfl, not_not.mp h4, by omega, .inr ⟨hne, (Host.Outcome.next.inj h).symm⟩⟩)

/-! Buffer words at the host port (R21, R69). -/

theorem Buf.holds_word (b c : Buf) {w : Nat} (h : 4 * w + 4 ≤ b.size) :
    c.holds (b.base + 4 * w) = decide (c = b) := by
  have e : Buf.blob.base = 320 ∧ Buf.tx.base = 384 ∧ Buf.rx.base = 416 ∧
      Buf.blob.size = 36 ∧ Buf.tx.size = 24 ∧ Buf.rx.size = 24 := by decide
  rw [Bool.eq_iff_iff]
  simp only [Buf.holds, Bool.and_eq_true, decide_eq_true_eq]
  cases b <;> cases c <;> simp only [reduceCtorEq, iff_false, iff_true] <;> omega

theorem regAt_bufWord (b : Buf) {w : Nat} (h : 4 * w + 4 ≤ b.size) :
    regAt (b.base + 4 * w) = some (.bufWord b (b.base + 4 * w)) := by
  unfold regAt
  cases b <;> simp [Buf.holds_word _ _ h]

end Sys2Proof.Machine
end

