-- ==== Sys2Proof/Tests/Slice0.lean ====
section
/-! SUPPORT. Tests. Words and expected values are those of spec/30_encoding.md R96 and spec/95_test_vectors.md; the
build is the test build of section 0 there. The `witness_` theorems show a state and operands that meet the
hypotheses of the obligation they name. -/

namespace Sys2Proof.Tests

open Sys2Proof.Machine

/-! Helpers. -/

/-- The test build (spec/95_test_vectors.md section 0); the timeouts are arbitrary. -/
def testCfg (r : Role) (v : Variant) : Config where
  role := r
  variant := v
  codes := ⟨⟨0xE0, 0xE1, 0⟩, ⟨0x21, 0x10, 0x23⟩, ⟨0x21, 0x10, 0x23⟩⟩
  delays := ⟨⟨0x01000000, 0, 0, 0, 0x01200000⟩, ⟨0x01000000, 0, 0, 0, 0x01200000⟩, ⟨0x01000000, 0, 0, 0, 0x01200000⟩⟩
  uusToDtu := 1
  txAntDly := 0x4000
  pollRxTimeout := 7
  respRxTimeout := 8
  finalRxTimeout := 9
  preTimeoutPac := 10
  pollTxToRespRxDly := 11
  respTxToFinalRxDly := 12
  rngDelayMs := 0
  cMps := 0x41B1DD1913000000
  clkoffEn := false
  pdoaEn := false
  durEn := false
  channelParams := []
  keyReset := ⟨0x11111111, 0x22222222, 0x33333333, 0x44444444⟩
  ivReset := ⟨1, 0, 0, 0⟩
  srcAddrReset := match r with | .initiator => 0x1001 | .responder => 0x2002
  dstAddrReset := match r with | .initiator => 0x2002 | .responder => 0x1001

/-- The reset state of the test build, moved to a phase. -/
def at_ (p : Phase) (r : Role) (v : Variant) : State := { State.resetWith (testCfg r v) Env.quiet with phase := p }

/-- Idle after init on a SingleSided Initiator. -/
def idleI : State := at_ .idle .initiator .singleSided

/-- The state with timestamp registers written, in the order of their indices. -/
def withTs (s : State) (vs : List DWord) : State :=
  ([TsReg.pollTx, .pollRx, .respTx, .respRx, .finalTx, .finalRx].zip vs).foldl (fun s p => setTs s p.1 p.2) s

/-- The state with inputs announced. -/
def withIn (s : State) (l : List Input) : State := withInputs s l

/-- The state with radio answers at hand. -/
def withAns (s : State) (a : RadioAnswers) : State := { s with env := { s.env with answers := a } }

/-- The next state of an outcome, or the given state. -/
def after (d : State) (o : Host.Outcome State Fault Refusal) : State :=
  match o with
  | .next t => t
  | .fault _ => d
  | .refused _ => d

/-- Whether an outcome is a next state. -/
def isNext (o : Host.Outcome State Fault Refusal) : Bool :=
  match o with
  | .next _ => true
  | .fault _ => false
  | .refused _ => false

theorem next_after {d : State} {o : Host.Outcome State Fault Refusal} (h : isNext o = true) : o = .next (after d o) := by
  cases o <;> first | rfl | simp [isNext] at h

/-- The state after one command word written to CMD. -/
def cmd (s : State) (w : Word) : State := after s (runWord w s)

/-- What a decoded word is, or none. -/
def dec (w : Word) : Option Instr := (decode w).toOption

/-! WellFormed: one ill-formed term for each check. -/

theorem test_wf_enc32_register : Instr.wellFormed (.enc32 6 0) = false := by decide
theorem test_wf_enc32_offset : Instr.wellFormed (.enc32 0 21) = false := by decide
theorem test_wf_dec32_register : Instr.wellFormed (.dec32 6 0) = false := by decide
theorem test_wf_dec32_offset : Instr.wellFormed (.dec32 0 21) = false := by decide
theorem test_wf_txsched_poll : Instr.wellFormed (.txsched 0) = false := by decide
theorem test_wf_txsched_selector : Instr.wellFormed (.txsched 3) = false := by decide
theorem test_wf_build_selector : Instr.wellFormed (.build 3) = false := by decide
theorem test_wf_validate_selector : Instr.wellFormed (.validate 3) = false := by decide
theorem test_wf_durms_start : Instr.wellFormed (.durms 6 0) = false := by decide
theorem test_wf_durms_end : Instr.wellFormed (.durms 0 6) = false := by decide
theorem test_wf_errinc_kind : Instr.wellFormed (.errinc 7 0) = false := by decide

/-! Decoding: words written out from R96, or as 95_test_vectors.md writes them. -/

theorem test_decode_enc32 : dec 0x000A0101 = some (.enc32 1 10) := by decide
theorem test_decode_dec32 : dec 0x000E0202 = some (.dec32 2 14) := by decide
theorem test_decode_txsched : dec 0x00000203 = some (.txsched 2) := by decide
theorem test_decode_build : dec 0x00000110 = some (.build 1) := by decide
theorem test_decode_validate : dec 0x00000211 = some (.validate 2) := by decide
theorem test_decode_tofss : dec 0x00000020 = some .tofss := by decide
theorem test_decode_tofds : dec 0x00000021 = some .tofds := by decide
theorem test_decode_pdoacvt : dec 0x00000022 = some .pdoacvt := by decide
theorem test_decode_durms : dec 0x00030023 = some (.durms 0 3) := by decide
theorem test_decode_postkey : dec 0x00000030 = some .postkey := by decide
theorem test_decode_applykey : dec 0x00000031 = some .applykey := by decide
theorem test_decode_armcyc : dec 0x00000032 = some .armcyc := by decide
theorem test_decode_seqinc : dec 0x00000040 = some .seqinc := by decide
theorem test_decode_errinc : dec 0x00050141 = some (.errinc 1 5) := by decide
theorem test_decode_tsclr : dec 0x00000042 = some .tsclr := by decide
theorem test_decode_deliver : dec 0x00000043 = some .deliver := by decide
theorem test_decode_run : dec 0x00000050 = some .run := by decide
theorem test_decode_rejects :
    ([0, 0xFF, 4, 0x12, 0x24, 0x33, 0x44, 0x51, 0x01000020, 0x120, 0x00010010, 0x01000030, 0x130].all
      fun w => dec w = none) = true := by decide

/-! Commands: section 2 of 95_test_vectors.md. -/

/-- 2.1 row 8. -/
theorem test_enc32_unaligned :
    let t := cmd (withTs idleI [0x1122334455667788]) 0x00030001
    memWord t.mem 0x180 = 0x88000000 ∧ memWord t.mem 0x184 = 0x00556677 := by decide
/-- 2.1 rows 6 and 7. -/
theorem test_enc32_faults :
    (cmd idleI 0x00000601).cmdFault = .badOperand ∧ (cmd idleI 0x00000101).cmdFault = .tsInvalid := by decide
/-- 2.1 row 10. -/
theorem test_dec32_clears_upper_half :
    let s := { withTs idleI [0, 0x000000AB00000000] with
      mem := memSetWord (memSetWord [] 0x1A8 0xFFFF0000) 0x1AC 0xFFFF, rxLen := 20 }
    tsVal (cmd s 0x000A0102) .pollRx = 0x00000000FFFFFFFF := by decide
/-- 2.1 rows 12 and 14. -/
theorem test_dec32_bound :
    (cmd { idleI with rxLen := 20 } 0x00110002).cmdFault = .badOperand ∧
      (cmd { idleI with rxLen := 30 } 0x00140002).cmdFault = .noFault := by decide
/-- 2.2 BUILD row 2. -/
theorem test_build_resp :
    let s := { withTs (at_ .idle .responder .singleSided) [0, 1200, 5150] with
      seq := 7, mat := ⟨⟨0, 0, 0, 0⟩, ⟨0, 0, 0, 0⟩, 0xAABB, 0xCCDD⟩ }
    let t := cmd s 0x00000110
    t.txLen = 20 ∧ memRead t.mem .tx 0 24 = [0x41, 0x88, 0x07, 0xCA, 0xDE, 0xDD, 0xCC, 0xBB, 0xAA, 0xE1,
      0xB0, 0x04, 0, 0, 0x1E, 0x14, 0, 0, 0, 0, 0, 0, 0, 0] := by decide
/-- 2.2 BUILD row 3. -/
theorem test_build_final :
    let s := { withTs (at_ .idle .initiator .doubleSided) [0xFFFFF000, 0, 0, 0x0101003356, 0x0102207200] with seq := 0x21 }
    let t := cmd s 0x00000210
    t.txLen = 24 ∧ memRead t.mem .tx 0 24 = [0x41, 0x88, 0x21, 0xCA, 0xDE, 0x02, 0x20, 0x01, 0x10, 0x23,
      0x00, 0xF0, 0xFF, 0xFF, 0x56, 0x33, 0x00, 0x01, 0x00, 0x72, 0x20, 0x02, 0, 0] := by decide

/-- The frame F of 2.2. -/
def frameF : List Byte :=
  [0x41, 0x88, 0x07, 0xCA, 0xDE, 0xDD, 0xCC, 0xBB, 0xAA, 0xE1, 0xB0, 0x04, 0, 0, 0x1E, 0x14, 0, 0, 0x9C, 0x3D]

/-- The device of the VALIDATE table of 2.2, with a frame received. -/
def gotF (f : List Byte) (len : BitVec 10) : State :=
  { idleI with mat := ⟨⟨0, 0, 0, 0⟩, ⟨0, 0, 0, 0⟩, 0xCCDD, 0xAABB⟩, mem := memWrite [] .rx 0 f, rxLen := len }

/-- 2.2 VALIDATE rows 1, 2, 13 and 14. -/
theorem test_validate_accepts :
    (cmd (gotF frameF 20) 0x111).vok = true ∧ (cmd (gotF (frameF.set 2 0xFF) 20) 0x111).vok = true ∧
      (cmd (gotF frameF 19) 0x111).vok = false ∧ (cmd (gotF frameF 21) 0x111).vok = false := by decide
/-- 2.2 VALIDATE rows 3 to 11. -/
theorem test_validate_rejects :
    ([((0 : Nat), (0x40 : Byte)), (1, 0x98), (3, 0xCB), (4, 0xDF), (5, 0xDC), (6, 0xCD), (7, 0xBA), (8, 0xAB), (9, 0xE0)].all
      fun p => !(cmd (gotF (frameF.set p.1 p.2) 20) 0x111).vok) = true := by decide

/-- 2.3 TOFSS row 1. -/
theorem test_tofss :
    let t := cmd (withTs idleI [1000, 1200, 5150, 5000]) 0x20
    t.tofDtu = 0x4039000000000000 ∧ t.tofS = 0x3DFAE2F5DD725207 ∧ t.distM = 0x3FBE04AE41D9E02E ∧
      t.wrapFlag = false ∧ t.resultValid = true := by decide +kernel
/-- 2.3 TOFSS rows 10 and 8. -/
theorem test_tofss_offset_and_wrap :
    (cmd { withTs idleI [1000, 1200, 5150, 5000] with kRaw := 0xFFFFFD61 } 0x20).tofDtu = 0x4038FAF1D5C00000 ∧
      (let t := cmd (withTs idleI [0xFFFFFFF0, 1200, 5150, 0x10]) 0x20
       t.distM = 0xC02260772879240A ∧ t.wrapFlag = true) := by decide +kernel
/-- 2.3 TOFDS row 6. -/
theorem test_tofds :
    let t := cmd (withTs idleI [0xFFFFF000, 0xFFFF800000, 0x804000, 0x01003356, 0x02207200, 0x01A08200]) 0x21
    t.tofDtu = 0x407AB00000000000 ∧ t.distM = 0x400005B2C5116941 ∧ t.wrapFlag = false := by decide
/-- 2.3 TOFDS rows 3 and 10. -/
theorem test_tofds_rounding_and_wrap :
    (cmd (withTs idleI [0, 0, 100, 300, 400, 300]) 0x21).tofDtu = 0x4051DB6DB6DB6DB7 ∧
      (cmd (withTs idleI [0, 0, 1800, 2000, 3800, 0x0100000ED8]) 0x21).wrapFlag = true := by decide
/-- 2.3 PDOACVT, raw 6434 and -32768. -/
theorem test_pdoacvt :
    (cmd { idleI with pdoaRaw := 0x1922 } 0x22).pdoaDeg = 0x43340021 ∧
      (cmd { idleI with pdoaRaw := 0x8000 } 0x22).pdoaDeg = 0xC4652EE1 := by decide
/-- 2.3 DURMS rows 1 and 5. -/
theorem test_durms :
    (cmd (withTs idleI [1000, 0, 0, 5000]) 0x00030023).durMs = 0x3F10690690690690 ∧
      (cmd (withTs idleI [0x10, 0, 0, 0xFFFFFFFFF0]) 0x00030023).durMs = 0x40D0CDD9AA655989 := by decide

/-- The bytes B1 of 2.4. -/
def blobB1 : List Byte :=
  [0x00, 0x11, 0x22, 0x33, 0x44, 0x55, 0x66, 0x77, 0x88, 0x99, 0xAA, 0xBB, 0xCC, 0xDD, 0xEE, 0xFF,
   0x01, 0x02, 0x03, 0x04, 0x05, 0x06, 0x07, 0x08, 0x09, 0x0A, 0x0B, 0x0C, 0x0D, 0x0E, 0x0F, 0x10,
   0xAA, 0xBB, 0xCC, 0xDD]

/-- The mailbox of 2.4 row 1. -/
def boxB1 : Mailbox :=
  ⟨true, ⟨0x00112233, 0x44556677, 0x8899AABB, 0xCCDDEEFF⟩, ⟨0x01020304, 0x05060708, 0x090A0B0C, 0x0D0E0F10⟩, 0xAABB,
    0xCCDD⟩

/-- 2.4 rows 1 and 6. -/
theorem test_postkey :
    (cmd { idleI with mem := memWrite [] .blob 0 blobB1 } 0x30).pend = boxB1 ∧
      (cmd { at_ .awaitPoll .responder .singleSided with mem := memWrite [] .blob 0 blobB1 } 0x30).pend = boxB1 := by
  decide
/-- 2.4 rows 2 and 3. -/
theorem test_applykey_crossover :
    regRead (cmd { idleI with pend := boxB1 } 0x31) 0x0E0 = 0xAABBCCDD ∧
      regRead (cmd { at_ .idle .responder .singleSided with pend := boxB1 } 0x31) 0x0E0 = 0xCCDDAABB := by decide
/-- 2.4 row 9. -/
theorem test_armcyc_first :
    (cmd idleI 0x32).env.calls =
      [.setStsKey ⟨0x11111111, 0x22222222, 0x33333333, 0x44444444⟩, .setStsIv ⟨1, 0, 0, 0⟩] := by decide
/-- 2.4 row 10, and row 12. -/
theorem test_armcyc_later :
    (cmd { idleI with firstCycle := false } 0x32).env.calls = [.setStsIvLow 1] ∧
      (cmd (at_ .sendPoll .initiator .singleSided) 0x32).cmdFault = .busy := by decide
/-- 2.5 row 2. -/
theorem test_seqinc_wraps : (cmd { idleI with seq := 255 } 0x40).seq = 0 := by decide
/-- 2.5 rows 3 and 4. -/
theorem test_errinc :
    (cmd idleI 0x00050141).rxErrMask = 5 ∧ (cmd idleI 0x00050141).errCnt.rxError = 1 ∧
      (cmd { idleI with rxErrMask := 5 } 0x00FF0041).rxErrMask = 5 := by decide
/-- 2.5 row 8. -/
theorem test_tsclr : regRead (cmd (withTs idleI [1, 2, 3, 4, 5, 6]) 0x42) 0x014 = 0 := by decide
/-- 2.5 rows 10 and 12. -/
theorem test_txsched_resp :
    (let t := cmd (withTs idleI [0, 0x12345679FF]) 0x103
     t.dlyTime = 0x12355679 ∧ tsVal t .respTx = 0x000000123556B800) ∧
      (let t := cmd (withTs idleI [0, 0xFFFF800000]) 0x103
       t.dlyTime = 0x00008000 ∧ tsVal t .respTx = 0x0000804000) := by decide
/-- 2.5 row 16. -/
theorem test_txsched_final :
    let t := cmd (withTs (at_ .idle .initiator .doubleSided) [0, 0, 0, 0x0101003356]) 0x203
    t.dlyTime = 0x01022033 ∧ tsVal t .finalTx = 0x0102207200 := by decide
/-- 2.5 rows 20 and 23. -/
theorem test_deliver :
    (cmd { idleI with distM := 0x3FBE04AE41D9E02E, resultValid := true } 0x43).env.sink =
      [0x62, 0x2E, 0xE0, 0xD9, 0x41, 0xAE, 0x04, 0xBE, 0x3F] ∧ (cmd idleI 0x43).cmdFault = .noResult := by decide
/-- 2.5 row 25. -/
theorem test_run_responder :
    let t := cmd { at_ .idle .responder .singleSided with firstCycle := false } 0x50
    t.phase = .awaitPoll ∧ t.env.calls = [.setStsIvLow 1, .setRxParams 0 7 10, .armRx .immediate] := by decide
/-- 2.6 rows 18 and 19. -/
theorem test_run_outside_idle :
    (cmd (at_ .init .initiator .singleSided) 0x50).cmdFault = .busy ∧
      cmd (at_ .fatal .initiator .singleSided) 0x50 = at_ .fatal .initiator .singleSided := by decide

/-! Reset, STATUS and the init step (2.7). -/

theorem test_status_after_reset : regRead (at_ .init .initiator .singleSided) 0x004 = 0x00000418 := by decide
theorem test_status_rejected :
    let t := seqStep (withAns (at_ .init .initiator .singleSided) { configure := [.rejected] })
    regRead t 0x004 = 0x00000C0F ∧ t.fatalCode = 2 := by decide
theorem test_classify :
    classify 0x00000A0C = .bad .rxTimeout 0 ∧ classify 0x00004008 = .bad .preambleNotDetected 0 ∧
      classify 0x00000500 = .bad .rxError 5 ∧ classify 0x00000306 = .good := by decide

theorem test_fetch_word_runs_first : (after State.reset (step (State.reset.withFetchWord 32 0x40))).seq = 1 := by decide

/-! Witnesses of the obligations' hypotheses. -/

theorem witness_DecodeEncodeAgree : decode 0x000A0101 = .ok (.enc32 1 10) := by rfl
theorem witness_OpcodeMapDecides :
    (∃ row ∈ opcodeMap, (0x000A0101 : Word) &&& row.mask = row.pattern) ∧
      ∀ row ∈ opcodeMap, (0x01000050 : Word) &&& row.mask ≠ row.pattern := by decide

theorem witness_StepRunsDecodedCommand :
    (withIn idleI [.hostWrite 0 0x40]).env.inputs = .hostWrite 0x000 0x40 :: [] ∧ dec 0x40 = some .seqinc ∧
      dec 0x01000040 = none ∧ idleI.phase ≠ .fatal ∧
      (withIn idleI [.sequencer]).env.inputs = .sequencer :: [] ∧ idleI.env.inputs = [] ∧
      decodeTableWord 32 0x40 = some .seqinc := by decide

/-- The lowest and the highest address of the port. -/
theorem witness_FatalIsAbsorbing :
    let s := at_ .fatal .initiator .singleSided
    s.phase = .fatal ∧ (withIn s [.hostWrite 0x000 0x50]).env.inputs = .hostWrite 0x000 0x50 :: [] ∧
      (withIn s [.hostWrite 0x1B4 1]).env.inputs = .hostWrite 0x1B4 1 :: [] ∧ 0x1B4 % 4 = 0 ∧ 0x1B4 ≤ 0x1B7 ∧
      (withIn s [.hostRead 0x1B4]).env.inputs = .hostRead 0x1B4 :: [] ∧
      (withIn s [.reset]).env.inputs = .reset :: [] := by decide

theorem witness_BusyOutsideIdle :
    Instr.enc32 6 0 ≠ .postkey ∧ (at_ .awaitPoll .responder .singleSided).phase ≠ .idle ∧
      (at_ .awaitPoll .responder .singleSided).phase ≠ .fatal := by decide

/-- Each of the three disjuncts, the last at its boundary. -/
theorem witness_IllegalOperandFaults :
    idleI.phase = .idle ∧ Instr.wellFormed (.enc32 0 21) = false ∧
      (namesFinal (.build 2) = true ∧ idleI.cfg.variant = .singleSided) ∧
      min ({ idleI with rxLen := 20 } : State).rxLen.toNat 24 < (17 : Byte).toNat + 4 := by decide

theorem witness_InvalidTimestampFaults :
    idleI.phase = .idle ∧ Instr.wellFormed (.build 1) = true ∧ namesFinal (.build 1) = false ∧
      TsReg.respTx ∈ readsTs (.build 1) ∧ tsValid idleI .respTx = false := by decide

theorem witness_FaultingCommandChangesOnlyItsCode :
    (after idleI (exec (.enc32 6 0) idleI)).cmdFault ≠ .noFault ∧ isNext (exec (.enc32 6 0) idleI) = true := by decide

/-- The last legal offset. -/
theorem witness_Enc32WritesLowWord :
    let s := withTs idleI [0xFFFFFFFF]
    s.phase = .idle ∧ s.mem.wf = true ∧ (0 : Byte).toNat = TsReg.pollTx.index ∧ (20 : Byte).toNat ≤ 20 ∧
      tsValid s .pollTx = true := by decide

/-- The last field inside a 20-byte frame. -/
theorem witness_Dec32ReadsField :
    let s := { idleI with rxLen := 20 }
    s.phase = .idle ∧ (5 : Byte).toNat = TsReg.finalRx.index ∧ (16 : Byte).toNat + 4 ≤ min s.rxLen.toNat 24 := by
  decide

theorem witness_CodecRoundTrip :
    let s := withTs idleI [0x000000FEDCBA9876]
    let t := after s (exec (.enc32 0 20) s)
    let u := { idleI with mem := memWrite [] .rx 20 (memRead t.mem .tx 20 4), rxLen := 24 }
    s.phase = .idle ∧ s.mem.wf = true ∧ (0 : Byte).toNat = TsReg.pollTx.index ∧ (5 : Byte).toNat = TsReg.finalRx.index ∧
      (20 : Byte).toNat ≤ 20 ∧ tsValid s .pollTx = true ∧ isNext (exec (.enc32 0 20) s) = true ∧ u.phase = .idle ∧
      u.mem.wf = true ∧ (20 : Byte).toNat + 4 ≤ min u.rxLen.toNat 24 ∧
      ∀ n < 4, bufByte u.mem .rx ((20 : Byte).toNat + n) = bufByte t.mem .tx ((20 : Byte).toNat + n) := by decide

/-- Each message. -/
theorem witness_BuildLaysOutFrame :
    let s := withTs (at_ .idle .initiator .doubleSided) [1, 2, 3, 4, 5, 6]
    s.phase = .idle ∧ s.mem.wf = true ∧ s.cfg.variant ≠ .singleSided ∧
      (msg? 0 = some .poll ∧ tsAllValid s (readsTs (.build 0)) = true) ∧
      (msg? 1 = some .resp ∧ tsAllValid s (readsTs (.build 1)) = true) ∧
      (msg? 2 = some .final ∧ tsAllValid s (readsTs (.build 2)) = true) := by decide

theorem witness_ValidateChecksLengthAndHeader :
    (gotF frameF 20).phase = .idle ∧ msg? 1 = some .resp ∧ Msg.resp ≠ .final ∧
      (at_ .idle .initiator .doubleSided).phase = .idle ∧ msg? 2 = some .final ∧
      (at_ .idle .initiator .doubleSided).cfg.variant ≠ .singleSided := by decide

theorem witness_SequenceNumberIsNotCompared :
    let s := gotF frameF 20
    let t := after s (exec (.validate 1) s)
    s.phase = .idle ∧ s.mem.wf = true ∧ isNext (exec (.validate 1) s) = true ∧ t.cmdFault = .noFault ∧ t.vok = true ∧
      9 < 10 := by decide

theorem witness_BuiltFrameValidatesAtPeer :
    let a := at_ .idle .initiator .singleSided
    let t := after a (exec (.build 0) a)
    let b := { at_ .idle .responder .singleSided with
      mem := memWrite [] .rx 0 (memRead t.mem .tx 0 10 ++ [0x5A, 0xC3]), rxLen := 12 }
    a.cfg.role ≠ b.cfg.role ∧ a.cfg.variant = b.cfg.variant ∧ a.cfg.codes = b.cfg.codes ∧
      a.mat.srcAddr = b.mat.dstAddr ∧ a.mat.dstAddr = b.mat.srcAddr ∧ a.phase = .idle ∧ b.phase = .idle ∧
      a.mem.wf = true ∧ msg? 0 = some .poll ∧ outbound a.cfg .poll = true ∧ isNext (exec (.build 0) a) = true ∧
      t.cmdFault = .noFault ∧ b.rxLen.toNat = t.txLen.toNat ∧
      ∀ i < 10, bufByte b.mem .rx i = bufByte t.mem .tx i := by decide

theorem witness_TofssComputes :
    let s := withTs idleI [1000, 1200, 5150, 5000]
    s.phase = .idle ∧ tsAllValid s [.pollTx, .pollRx, .respTx, .respRx] = true := by decide

/-- A true interval of 2^32 - 1, and one of 0. -/
theorem witness_TofssIgnoresCommonOffset :
    (5 : DWord).toNat ≤ (0x100000004 : DWord).toNat ∧ (0x100000004 : DWord).toNat - (5 : DWord).toNat < 2 ^ 32 ∧
      (7 : DWord).toNat - (7 : DWord).toNat < 2 ^ 32 ∧
      (let s := withTs idleI [1000, 1200, 5150, 5000]
       s.phase = .idle ∧ tsAllValid s [.pollTx, .pollRx, .respTx, .respRx] = true ∧
         isNext (exec .tofss s) = true) := by decide

theorem witness_NaturalsConvertExactly : 0 < 2 ^ 53 ∧ 2 ^ 53 - 1 < 2 ^ 53 := by decide

theorem witness_TofdsComputes :
    let s := withTs idleI [0, 0, 1800, 2000, 3800, 3800]
    s.phase = .idle ∧ tsAllValid s allTs = true := by decide

/-- 2.3 TOFDS row 5. -/
theorem witness_TofdsDegenerateGivesNaN :
    let s := withTs idleI [10, 20, 20, 10, 10, 20]
    s.phase = .idle ∧ tsAllValid s allTs = true ∧ d32 s .respRx .pollTx = 0 ∧ d32 s .finalRx .respTx = 0 ∧
      d32 s .finalTx .respRx = 0 ∧ d32 s .respTx .pollRx = 0 := by decide

theorem witness_PdoacvtConverts : idleI.phase = .idle := by decide

theorem witness_DurmsMeasures :
    let s := withTs idleI [1000, 0, 0, 0, 0, 5000]
    s.phase = .idle ∧ (0 : Byte).toNat = TsReg.pollTx.index ∧ (5 : Byte).toNat = TsReg.finalRx.index ∧
      tsValid s .pollTx = true ∧ tsValid s .finalRx = true := by decide

theorem witness_PostkeyFillsMailbox :
    (at_ .init .initiator .singleSided).phase ≠ .fatal ∧ idleI.phase ≠ .fatal := by decide

theorem witness_ApplykeyConsumesMailbox :
    idleI.phase = .idle ∧ idleI.pend.valid = false ∧ ({ idleI with pend := boxB1 } : State).pend.valid = true := by decide

theorem witness_CrossoverMirrorsAddresses :
    let a := { at_ .idle .initiator .singleSided with pend := boxB1 }
    let b := { at_ .idle .responder .singleSided with pend := boxB1 }
    a.phase = .idle ∧ b.phase = .idle ∧ a.cfg.role = .initiator ∧ b.cfg.role = .responder ∧ a.pend.valid = true ∧
      b.pend = a.pend ∧ a.cfg.variant = b.cfg.variant ∧ a.cfg.codes = b.cfg.codes := by decide

theorem witness_ArmcycProgramsRadio :
    idleI.phase = .idle ∧ idleI.firstCycle = true ∧ ({ idleI with firstCycle := false } : State).firstCycle = false := by
  decide

/-- A POSTKEY in AwaitPoll, and the cycle start by RUN and under AUTO. -/
theorem witness_KeyMaterialIsStableInFlight :
    (let s := withIn (at_ .awaitPoll .responder .singleSided) [.hostWrite 0 0x30]
     s.phase ≠ .idle ∧ resetNext s = false ∧ isNext (step s) = true) ∧
    (let s := { idleI with pend := boxB1, auto := true }
     s.phase = .idle ∧ s.mem.wf = true ∧ s.pend.valid = true ∧ isNext (exec .run s) = true ∧ s.auto = true ∧
       s.cfg.role = .initiator) := by decide

/-- SEQINC by the host, and TX_DONE in SendPoll. -/
theorem witness_SeqincAdvances :
    idleI.phase = .idle ∧
    ((at_ .sendPoll .initiator .singleSided).phase ≠ .idle ∧ (at_ .sendPoll .initiator .singleSided).phase ≠ .fatal) ∧
    (let s := withIn idleI [.hostWrite 0 0x40]
     isNext (step s) = true ∧ (after s (step s)).seq ≠ s.seq) ∧
    (let s := withAns (at_ .sendPoll .initiator .singleSided) { status := [1] }
     isNext (step s) = true ∧ (after s (step s)).seq ≠ s.seq) := by decide

/-- The first and the last kind. -/
theorem witness_ErrincCounts :
    idleI.phase = .idle ∧ (0 : Byte).toNat = ErrKind.rxTimeout.code ∧ (6 : Byte).toNat = ErrKind.allocationFailure.code := by
  decide

theorem witness_TsclrDiscards : (withTs idleI [1, 2, 3, 4, 5, 6]).phase = .idle := by decide

/-- RESP in SingleSided and FINAL in DoubleSided. -/
theorem witness_TxschedSchedules :
    (let s := withTs idleI [0, 0xFFFFFFFFFF]
     s.phase = .idle ∧ tsValid s .pollRx = true) ∧
    (let s := withTs (at_ .idle .initiator .doubleSided) [0, 0, 0, 0xFFFFFFFFFF]
     s.phase = .idle ∧ s.cfg.variant ≠ .singleSided ∧ tsValid s .respRx = true) := by decide

theorem witness_DeliverEmits :
    idleI.phase = .idle ∧ idleI.resultValid = false ∧ ({ idleI with resultValid := true } : State).resultValid = true := by
  decide

/-- With AUTO clear, and with AUTO set and no rekey pending. -/
theorem witness_RunStartsInitiatorCycle :
    ∀ a ∈ [false, true],
      let s := { idleI with auto := a }
      s.phase = .idle ∧ s.mem.wf = true ∧ s.cfg.role = .initiator ∧ s.pend.valid = false ∧ s.auto = a := by decide

/-- With AUTO clear, and with AUTO set and no rekey pending. -/
theorem witness_RunStartsResponderCycle :
    ∀ a ∈ [false, true],
      let s := { at_ .idle .responder .singleSided with auto := a }
      s.phase = .idle ∧ s.cfg.role = .responder ∧ s.pend.valid = false ∧ s.auto = a := by decide

/-- Under AUTO the turn in Idle starts a cycle and leaves CMD_FAULT; without AUTO nothing happens (R203). -/
theorem test_auto_turn :
    (let t := seqStep { at_ .idle .responder .singleSided with auto := true, cmdFault := .busy }
     t.phase = .awaitPoll ∧ t.cmdFault = .busy) ∧
    (seqStep (at_ .idle .responder .singleSided)).phase = .idle := by decide

theorem witness_InitStepFollowsRadioAnswer :
    let s := withAns (at_ .init .initiator .singleSided) { configure := [.rejected] }
    s.phase = .init ∧ s.env.answers.configure = .rejected :: [] ∧ Instr.run ≠ .postkey := by decide

/-- A status with several error bits, in each receive phase. -/
theorem witness_BadStatusEntersError :
    (∀ p ∈ [Phase.awaitPoll, .awaitResponse, .awaitFinal],
      let s := withAns (at_ p .responder .doubleSided) { status := [0x00000A0C] }
      s.phase = p ∧ s.env.answers.status = 0x00000A0C :: []) ∧
    (0x00000A0C : Word) &&& 0x0000FF0E ≠ 0 ∧ (0x00000A0C : Word).getLsbD 1 = false := by decide

/-- A failed read, and the largest negative index. -/
theorem witness_BadStsEntersError :
    let s := withAns (at_ .awaitPoll .responder .singleSided) { status := [0x306], sts := [⟨true, 0xFFFF⟩] }
    s.phase = .awaitPoll ∧ s.env.answers.status = 0x306 :: [] ∧ (0x306 : Word).getLsbD 1 = true ∧
      s.env.answers.sts = ⟨true, 0xFFFF⟩ :: [] ∧ (0xFFFF : BitVec 16).toInt < 0 ∧
      (⟨false, 50⟩ : StsAnswer).ok = false := by decide

/-- The answers of a good receive step with the given frame. -/
def good (f : List Byte) : RadioAnswers :=
  { status := [2], sts := [⟨true, 0⟩], frame := [f], txTime := [1000], rxTime := [5000], armTx := [.late] }

/-- What a good receive step needs of the answers. -/
theorem good_status : (2 : Word).getLsbD 1 = true ∧ (⟨true, 0⟩ : StsAnswer).ok = true ∧
    0 ≤ (⟨true, 0⟩ : StsAnswer).quality.toInt := by decide

/-- A frame one byte short, and one of the right length with a wrong byte 0 or a wrong byte 9, in each receive
phase. -/
theorem witness_BadHeaderEntersError :
    (∀ p ∈ [(Phase.awaitPoll, Msg.poll), (.awaitResponse, .resp), (.awaitFinal, .final)], ∀ i ∈ [0, 9],
      let f := fun (s : State) => (template s.cfg s.mat p.2 ++ List.replicate (frameLen p.2 - 10) 0).set i 0xFF
      let s := withAns (at_ p.1 .responder .doubleSided) (good (f (at_ p.1 .responder .doubleSided)))
      s.mem.wf = true ∧ s.phase = p.1 ∧ s.env.answers.frame = f s :: [] ∧ (f s).length ≤ 1023 ∧
        (f s).length = frameLen p.2 ∧ i < 10 ∧ i ≠ 2 ∧ (f s).getD i 0 ≠ (template s.cfg s.mat p.2).getD i 0) ∧
    (∀ p ∈ [Phase.awaitPoll, .awaitResponse, .awaitFinal],
      let s := withAns (at_ p .responder .doubleSided) (good (List.replicate 11 0))
      s.mem.wf = true ∧ s.phase = p ∧ s.cfg.variant ≠ .singleSided ∧ s.env.answers.status = 2 :: [] ∧
        s.env.answers.sts = ⟨true, 0⟩ :: [] ∧ s.env.answers.frame = List.replicate 11 0 :: []) ∧
    (List.replicate 11 (0 : Byte)).length ≤ 1023 ∧
    (∀ m ∈ [Msg.poll, .resp, .final], (List.replicate 11 (0 : Byte)).length ≠ frameLen m) := by decide

/-- The state with the optional readings enabled. -/
def withOptions (s : State) : State := { s with cfg := { s.cfg with clkoffEn := true, pdoaEn := true, durEn := true } }

/-- The Response an Initiator of the test build expects. -/
def respFrame : List Byte :=
  [0x41, 0x88, 0x07, 0xCA, 0xDE, 0x01, 0x10, 0x02, 0x20, 0xE1, 0xB0, 0x04, 0, 0, 0x1E, 0x14, 0, 0, 0x5A, 0xC3]

/-- Without the optional readings, and with both of them enabled and at hand. -/
theorem witness_GoodResponseFillsTimestamps :
    (let s := withOptions (withAns (at_ .awaitResponse .initiator .singleSided)
        { good respFrame with clockOffset := [0xFFFFFFFF], pdoa := [0x8000] })
     s.phase = .awaitResponse ∧ s.mem.wf = true ∧ s.cfg.clkoffEn = true ∧ s.cfg.pdoaEn = true ∧
      s.env.answers.status = 2 :: [] ∧ s.env.answers.sts = ⟨true, 0⟩ :: [] ∧ s.env.answers.frame = respFrame :: [] ∧
      ([0, 1, 3, 4, 5, 6, 7, 8, 9].all fun i =>
        respFrame.getD i 0 = (template s.cfg s.mat .resp).getD i 0) = true ∧
      s.env.answers.txTime = 1000 :: [] ∧ s.env.answers.rxTime = 5000 :: [] ∧
      s.env.answers.clockOffset = 0xFFFFFFFF :: [] ∧ s.env.answers.pdoa = 0x8000 :: []) ∧
    let s := withAns (at_ .awaitResponse .initiator .singleSided) (good respFrame)
    s.phase = .awaitResponse ∧ s.mem.wf = true ∧ s.env.answers.status = 2 :: [] ∧
      s.env.answers.sts = ⟨true, 0⟩ :: [] ∧ s.env.answers.frame = respFrame :: [] ∧ respFrame.length = 20 ∧
      ([0, 1, 3, 4, 5, 6, 7, 8, 9].all fun i =>
        respFrame.getD i 0 = (template s.cfg s.mat .resp).getD i 0) = true ∧
      s.env.answers.txTime = 1000 :: [] ∧ s.env.answers.rxTime = 5000 :: [] ∧ s.cfg.clkoffEn = false ∧
      s.cfg.pdoaEn = false := by decide

/-- The Poll a Responder of the test build expects. -/
def pollFrame : List Byte := [0x41, 0x88, 0x33, 0xCA, 0xDE, 0x02, 0x20, 0x01, 0x10, 0xE0, 0x9A, 0xBC]

/-- A DS-TWR variant with the transmission accepted, and SingleSided with it refused. -/
theorem witness_GoodPollSchedulesResponse :
    (let f := pollFrame.set 9 0x21
     let s := withAns (at_ .awaitPoll .responder .doubleSided) { good f with armTx := [.ok] }
     s.phase = .awaitPoll ∧ s.mem.wf = true ∧ s.cfg.variant ≠ .singleSided ∧ s.env.answers.status = 2 :: [] ∧
      s.env.answers.sts = ⟨true, 0⟩ :: [] ∧ s.env.answers.frame = f :: [] ∧ f.length = 12 ∧
      ([0, 1, 3, 4, 5, 6, 7, 8, 9].all fun i => f.getD i 0 = (template s.cfg s.mat .poll).getD i 0) = true ∧
      s.env.answers.rxTime = 5000 :: [] ∧ s.env.answers.armTx = .ok :: []) ∧
    let s := withAns (at_ .awaitPoll .responder .singleSided) (good pollFrame)
    s.phase = .awaitPoll ∧ s.mem.wf = true ∧ s.env.answers.status = 2 :: [] ∧
      s.env.answers.sts = ⟨true, 0⟩ :: [] ∧ s.env.answers.frame = pollFrame :: [] ∧ pollFrame.length = 12 ∧
      ([0, 1, 3, 4, 5, 6, 7, 8, 9].all fun i =>
        pollFrame.getD i 0 = (template s.cfg s.mat .poll).getD i 0) = true ∧
      s.env.answers.rxTime = 5000 :: [] ∧ s.env.answers.armTx = .late :: [] := by decide

/-- The Final a Responder of the test build expects. -/
def finalFrame : List Byte :=
  [0x41, 0x88, 0x21, 0xCA, 0xDE, 0x02, 0x20, 0x01, 0x10, 0x23, 0x00, 0xF0, 0xFF, 0xFF, 0x56, 0x33, 0x00, 0x01,
   0x00, 0x72, 0x20, 0x02, 0x11, 0x22]

/-- Without the PDOA reading, and with it enabled and at hand. -/
theorem witness_GoodFinalFillsTimestamps :
    (let s := withOptions (withAns (withTs (at_ .awaitFinal .responder .doubleSided) [0, 1200, 5150])
        { good finalFrame with pdoa := [0x7FFF] })
     s.phase = .awaitFinal ∧ s.cfg.pdoaEn = true ∧ s.env.answers.pdoa = 0x7FFF :: [] ∧
      tsAllValid s responderTs = true ∧ s.env.answers.frame = finalFrame :: []) ∧
    let s := withAns (withTs (at_ .awaitFinal .responder .doubleSided) [0, 1200, 5150]) (good finalFrame)
    s.phase = .awaitFinal ∧ s.mem.wf = true ∧ s.cfg.variant ≠ .singleSided ∧ tsAllValid s responderTs = true ∧
      s.env.answers.status = 2 :: [] ∧ s.env.answers.sts = ⟨true, 0⟩ :: [] ∧
      s.env.answers.frame = finalFrame :: [] ∧ finalFrame.length = 24 ∧
      ([0, 1, 3, 4, 5, 6, 7, 8, 9].all fun i =>
        finalFrame.getD i 0 = (template s.cfg s.mat .final).getD i 0) = true ∧
      s.env.answers.rxTime = 5000 :: [] := by decide

theorem witness_TxDoneAdvancesSeq :
    (∀ p ∈ [Phase.sendPoll, .sendResponse, .sendFinal],
      let s := withAns (at_ p .initiator .doubleSided) { status := [1] }
      s.phase = p ∧ s.env.answers.status = 1 :: [] ∧ (at_ p .initiator .doubleSided).env.answers.status = []) ∧
    (1 : Word).getLsbD 0 = true := by decide

/-- SingleSided, and a DS-TWR variant with the Final accepted and with it refused as late. -/
theorem witness_InitiatorComputeDelivers :
    (let s := withTs (at_ .compute .initiator .singleSided) [1000, 1200, 5150, 5000]
     s.phase = .compute ∧ s.cfg.role = .initiator ∧ s.cfg.variant = .singleSided ∧ tsAllValid s initiatorTs = true) ∧
    ∀ a ∈ [TxAnswer.ok, .late],
      let s := withOptions (withAns (withTs (at_ .compute .initiator .doubleSidedSDC) [1000, 1200, 5150, 5000])
        { armTx := [a] })
      s.phase = .compute ∧ s.cfg.role = .initiator ∧ s.cfg.variant ≠ .singleSided ∧ s.mem.wf = true ∧
        tsAllValid s initiatorTs = true ∧ s.env.answers.armTx = a :: [] := by
  decide

/-- Without the optional side outputs, and with both of them enabled. -/
theorem witness_ResponderComputeReportsOnly :
    let s := withTs (at_ .compute .responder .doubleSided) [0, 0, 1800, 2000, 3800, 3800]
    (s.phase = .compute ∧ s.cfg.role = .responder ∧ tsAllValid s allTs = true ∧ s.cfg.durEn = false ∧
      s.cfg.pdoaEn = false) ∧
    (let u := withOptions s
     u.phase = .compute ∧ u.cfg.role = .responder ∧ tsAllValid u allTs = true ∧ u.cfg.durEn = true ∧
      u.cfg.pdoaEn = true) := by decide

/-- A cycle start. -/
theorem witness_TransitionsAreTheTable :
    let s := withIn idleI [.hostWrite 0 0x50]
    resetNext s = false ∧ isNext (step s) = true ∧ (after s (step s)).phase ≠ s.phase := by decide

theorem witness_StepKeepsInvariant :
    let s := withIn idleI [.hostWrite 0 0x50]
    goodState s = true ∧ isNext (step s) = true := by decide

theorem witness_ComputeNeverStalls :
    let s := { withTs (at_ .compute .initiator .doubleSided) [1000, 1200, 5150, 5000] with firstCycle := false, vok := true }
    goodState s = true ∧ s.phase = .compute := by decide

theorem witness_ResetGivesStatedValues : (withIn idleI [.reset]).env.inputs = .reset :: [] := by decide

theorem witness_BuildNeverChanges : isNext (step (withIn idleI [.reset])) = true := by decide

/-- ERRINC, which advances a counter. -/
theorem witness_OneErrorPerStep :
    let s := withIn idleI [.hostWrite 0 0x41]
    resetNext s = false ∧ isNext (step s) = true ∧ (after s (step s)).errCnt ≠ s.errCnt := by decide

theorem witness_CountersGateNothing :
    ∀ a, (withIn idleI [.hostWrite 0 0x41]).env.inputs.head? ≠ some (.hostRead a) := by simp [withIn, withInputs]

theorem witness_StatusWordFields : (withIn idleI [.hostWrite 4 7]).env.inputs = .hostWrite 0x004 7 :: [] := by decide

/-- In AwaitPoll a timestamp register; in Idle the ends of the ranges. -/
theorem witness_WritesOutsideIdleAreIgnored :
    ((at_ .awaitPoll .responder .singleSided).phase ≠ .idle ∧ 0x040 % 4 = 0 ∧ Buf.blob.holds 0x040 = false ∧
      Buf.blob.holds 0x13C = false ∧ Buf.blob.holds 0x164 = false) ∧
    (idleI.phase = .idle ∧ 0x010 % 4 = 0 ∧ 0x02C < 0x030 ∧ 0x034 % 4 = 0 ∧ 0x13C < 0x140 ∧ 0x17C < 0x180 ∧
      0x19C < 0x1A0 ∧ (withIn idleI [.hostWrite 0x13C 1]).env.inputs = .hostWrite 0x13C 1 :: []) := by decide

/-- CTRL in AwaitPoll and K_RAW, PDOA_RAW and RXLEN in Idle, with all bits set; then both halves of the first and the
last timestamp register. -/
theorem witness_HostWritesRegister :
    ((at_ .awaitPoll .responder .singleSided).phase ≠ .fatal ∧
      (withIn (at_ .awaitPoll .responder .singleSided) [.hostWrite 0x008 1]).env.inputs = .hostWrite 0x008 1 :: []) ∧
    ([0x018, 0x01C, 0x030].all fun a =>
      (withIn idleI [.hostWrite a 0xFFFFFFFF]).env.inputs = .hostWrite a 0xFFFFFFFF :: []) = true ∧
    idleI.phase = .idle ∧ 0x040 = 0x040 + 8 * TsReg.pollTx.index + 0 ∧ 0x06C = 0x040 + 8 * TsReg.finalRx.index + 4 ∧
      (withIn idleI [.hostWrite 0x06C 1]).env.inputs = .hostWrite (0x040 + 8 * TsReg.finalRx.index + 4) 1 :: [] := by
  decide

/-- A write of all ones to RXLEN keeps ten bits, one to PDOA_RAW sixteen (spec/10_state.md R42, R29). -/
theorem test_narrow_writes :
    (after idleI (hostWrite 0x030 0xFFFFFFFF idleI)).rxLen = 1023 ∧
      (after idleI (hostWrite 0x01C 0xFFFF8001 idleI)).pdoaRaw = 0x8001 := by decide

/-- The last word of each buffer; BLOB in AwaitPoll. -/
theorem witness_HostWritesBufferWord :
    idleI.mem.wf = true ∧ 4 * 8 + 4 ≤ Buf.blob.size ∧ 4 * 5 + 4 ≤ Buf.tx.size ∧ 4 * 5 + 4 ≤ Buf.rx.size ∧
      (at_ .awaitPoll .responder .singleSided).phase ≠ .fatal ∧ idleI.phase = .idle ∧
      (withIn idleI [.hostWrite 0x1B4 1]).env.inputs = .hostWrite (Buf.rx.base + 4 * 5) 1 :: [] := by decide

/-- The last address, an unlisted one, a misaligned one and the first one outside, read and written; the first and
the last word of each buffer. -/
theorem witness_PortStopsAndReads :
    ([0x1B4, 0x034, 0x19C, 0x1B7, 0x1B8].all fun a =>
      (withIn idleI [.hostRead a]).env.inputs = .hostRead a :: [] &&
      (withIn idleI [.hostWrite a 1]).env.inputs = .hostWrite a 1 :: []) = true ∧
      0x1B4 % 4 = 0 ∧ 0x1B4 ≤ 0x1B7 ∧ 0x1B7 % 4 ≠ 0 ∧ 0x1B8 % 4 = 0 ∧ 0x1B7 < 0x1B8 ∧
      (0x034 ≤ 0x034 ∧ 0x034 < 0x040) ∧ (0x198 ≤ 0x19C ∧ 0x19C < 0x1A0) ∧
      (∀ b ∈ [Buf.blob, .tx, .rx], 4 * 0 + 4 ≤ b.size) ∧ 4 * 8 + 4 ≤ Buf.blob.size ∧ 4 * 5 + 4 ≤ Buf.tx.size ∧
      4 * 5 + 4 ≤ Buf.rx.size := by decide

/-- DELIVER, which emits. -/
theorem witness_SinkGetsWholeMessages :
    let s := withIn { idleI with resultValid := true } [.hostWrite 0 0x43]
    isNext (step s) = true ∧ (after s (step s)).env.sink ≠ s.env.sink := by decide

/-- TOFSS, which changes TOF_DTU. -/
theorem witness_ResultsComeFromComputeOnly :
    let s := withIn (withTs idleI [1000, 1200, 5150, 5000]) [.hostWrite 0 0x20]
    isNext (step s) = true ∧ (after s (step s)).tofDtu ≠ s.tofDtu := by decide +kernel

end Sys2Proof.Tests
end

/-! SUPPORT. STATUS at the host port (spec/10_state.md R20, R21, R23): where it is, the bits it reads as, that a host
write leaves it alone, and its value after reset. -/

namespace Sys2Proof.Machine

/-! The port. -/

/-- A host write to a listed register other than CMD (R20, R22). -/
theorem step_hostWrite_reg {s : State} {a : Nat} {v : Word} {rest : List Input} {r : Reg}
    (hi : s.env.inputs = .hostWrite a v :: rest) (hAligned : a % 4 = 0) (hRange : a ≤ 0x1B7)
    (hr : regAt a = some r) (hCmd : r ≠ .cmd) :
    step s = .next (writeReg (withInputs s rest) v r) := by
  have hNotAbove : ¬ a > 0x1B7 := by omega
  simp [step, hi, takeInput, hostWrite, onPort, hAligned, hNotAbove, hr]

theorem regAt_status : regAt 0x004 = some .status := by decide

theorem regRead_status (s : State) : regRead s 0x004 = statusWord s := by
  simp [regRead, regAt_status, readReg]

theorem step_hostWrite_status {s : State} {v : Word} {rest : List Input}
    (hi : s.env.inputs = .hostWrite 0x004 v :: rest) : step s = .next (withInputs s rest) :=
  step_hostWrite_reg hi (by decide) (by decide) regAt_status (by decide)

/-! The word (R23). -/

theorem Phase.busy_iff (p : Phase) : p.busy = true ↔ p ≠ .idle ∧ p ≠ .fatal := by
  simp [Phase.busy]

/-- The layout of STATUS, bit by bit. -/
theorem statusWord_getLsbD (s : State) (i : Nat) :
    (statusWord s).getLsbD i =
      if i < 4 then s.phase.code.getLsbD i
      else if i = 4 then s.phase.busy
      else if i = 5 then s.vok
      else if i = 6 then s.resultValid
      else if i = 7 then s.pdoaValid
      else if i = 8 then s.durValid
      else if i = 9 then s.pend.valid
      else if i = 10 then s.firstCycle
      else if i = 11 then decide (s.phase = .fatal)
      else if i = 12 then s.wrapFlag
      else if i < 16 then false
      else if i < 20 then s.cmdFault.code.getLsbD (i - 16)
      else false := by
  -- The width 32 written as the sum of the fields' widths, so that each `++` can be peeled off.
  change BitVec.getLsbD (w := 12 + 4 + 3 + 1 + 1 + 1 + 1 + 1 + 1 + 1 + 1 + 1 + 4) (_ ++ s.phase.code) i = _
  simp only [BitVec.getLsbD_append, BitVec.getLsbD_ofBool, BitVec.getLsbD_zero, Nat.sub_sub]
  rcases Nat.lt_or_ge i 20 with hLow | hHigh
  · interval_cases i <;> rfl
  · simp (disch := omega) only [if_neg]

theorem statusWord_phase (s : State) : (statusWord s).extractLsb' 0 4 = s.phase.code := by
  ext k hk
  rw [BitVec.getElem_extractLsb', statusWord_getLsbD, if_pos (by omega), Nat.zero_add, BitVec.getLsbD_eq_getElem]

theorem statusWord_cmdFault (s : State) : (statusWord s).extractLsb' 16 4 = s.cmdFault.code := by
  ext k hk
  rw [BitVec.getElem_extractLsb', statusWord_getLsbD]
  simp (disch := omega) only [if_neg, if_pos, Nat.add_sub_cancel_left, BitVec.getLsbD_eq_getElem]

/-- Bits 15:13 and 31:20 belong to no field. -/
theorem statusWord_reserved (s : State) {i : Nat} (h : (13 ≤ i ∧ i < 16) ∨ 20 ≤ i) :
    (statusWord s).getLsbD i = false := by
  rw [statusWord_getLsbD]
  rcases h with ⟨hFrom, hTo⟩ | hFrom
  · simp (disch := omega) only [if_neg, if_pos]
  · simp (disch := omega) only [if_neg]

theorem statusWord_reserved15_13 (s : State) : (statusWord s).extractLsb' 13 3 = 0 := by
  ext k hk
  rw [BitVec.getElem_extractLsb', statusWord_reserved s (by omega), BitVec.ofNat_eq_ofNat, BitVec.getElem_zero]

theorem statusWord_reserved31_20 (s : State) : (statusWord s).extractLsb' 20 12 = 0 := by
  ext k hk
  rw [BitVec.getElem_extractLsb', statusWord_reserved s (by omega), BitVec.ofNat_eq_ofNat, BitVec.getElem_zero]

/-- Reset sets PHASE to Init and FIRST_CYCLE to 1, and clears every other flag, whatever the build (R49). -/
theorem statusWord_reset (c : Config) (e : Env) : statusWord (State.resetWith c e) = 0x00000418 := by
  simp [statusWord, State.resetWith, Phase.code, Phase.busy, CmdFault.code]

/-- Settles O54: each flag is the layout of the word at its bit, the write is that of a read-only register. -/
theorem statusWordFields : Obligations.StatusWordFields := by
  refine ⟨fun s => ?_, fun s v rest hi => step_hostWrite_status hi, fun c e => ?_⟩
  · rw [regRead_status]
    have hBusy : (statusWord s).getLsbD 4 = true ↔ s.phase ≠ .idle ∧ s.phase ≠ .fatal := by
      rw [show (statusWord s).getLsbD 4 = s.phase.busy from statusWord_getLsbD s 4, Phase.busy_iff]
    have hFatal : (statusWord s).getLsbD 11 = true ↔ s.phase = .fatal := by
      rw [show (statusWord s).getLsbD 11 = decide (s.phase = .fatal) from statusWord_getLsbD s 11, decide_eq_true_iff]
    exact ⟨statusWord_phase s, hBusy, statusWord_getLsbD s 5, statusWord_getLsbD s 6, statusWord_getLsbD s 7,
      statusWord_getLsbD s 8, statusWord_getLsbD s 9, statusWord_getLsbD s 10, hFatal, statusWord_getLsbD s 12,
      statusWord_reserved15_13 s, statusWord_cmdFault s, statusWord_reserved31_20 s⟩
  · rw [regRead_status, statusWord_reset]

end Sys2Proof.Machine

/-! SUPPORT. The opcode map as masks and matches (spec/30_encoding.md R90 to R96): a match is a statement about the
four byte fields, and a row's mask says which format the decoder reads the rest of the word by. -/

namespace Sys2Proof.Machine

/-! Words and their fields (R90). -/

theorem append_fields (w : Word) : fieldZ w ++ fieldB w ++ fieldA w ++ fieldOp w = w := by
  simp only [fieldZ, fieldB, fieldA, fieldOp]
  rw [BitVec.extractLsb'_append_extractLsb'_eq_extractLsb' (by rfl),
    BitVec.extractLsb'_append_extractLsb'_eq_extractLsb' (by rfl),
    BitVec.extractLsb'_append_extractLsb'_eq_extractLsb' (by rfl)]
  exact BitVec.extractLsb'_eq_self

theorem word_eq_iff_fields (v w : Word) :
    v = w ↔ fieldZ v = fieldZ w ∧ fieldB v = fieldB w ∧ fieldA v = fieldA w ∧ fieldOp v = fieldOp w := by
  constructor
  · rintro rfl
    exact ⟨rfl, rfl, rfl, rfl⟩
  · rintro ⟨hZ, hB, hA, hOp⟩
    rw [← append_fields v, ← append_fields w, hZ, hB, hA, hOp]

/-- A mask and a match compare field by field. -/
theorem and_eq_iff_fields (w mask pattern : Word) :
    w &&& mask = pattern ↔
      fieldZ w &&& fieldZ mask = fieldZ pattern ∧ fieldB w &&& fieldB mask = fieldB pattern ∧
      fieldA w &&& fieldA mask = fieldA pattern ∧ fieldOp w &&& fieldOp mask = fieldOp pattern := by
  simp only [word_eq_iff_fields (w &&& mask), fieldZ, fieldB, fieldA, fieldOp, BitVec.extractLsb'_and]

theorem byte_and_ones (b : Byte) : b &&& 0xFF#8 = b := BitVec.and_allOnes

/-! The formats of the decoder as the masks of the map (R91 to R95). -/

section
variable {w pattern : Word} (hZ : fieldZ pattern = 0) (hB : fieldB pattern = 0) (hA : fieldA pattern = 0)
  (hOp : fieldOp w = fieldOp pattern)
include hZ hB hA hOp

theorem matches_format2_iff : w &&& 0xFF0000FF = pattern ↔ fieldZ w = 0 := by
  have hMask : fieldZ 0xFF0000FF#32 = 0xFF#8 ∧ fieldB 0xFF0000FF#32 = 0 ∧ fieldA 0xFF0000FF#32 = 0 ∧
      fieldOp 0xFF0000FF#32 = 0xFF#8 := by decide
  simp [and_eq_iff_fields, hMask, hZ, hB, hA, hOp, byte_and_ones]

theorem matches_format1_iff : w &&& 0xFFFF00FF = pattern ↔ fieldZ w = 0 ∧ fieldB w = 0 := by
  have hMask : fieldZ 0xFFFF00FF#32 = 0xFF#8 ∧ fieldB 0xFFFF00FF#32 = 0xFF#8 ∧ fieldA 0xFFFF00FF#32 = 0 ∧
      fieldOp 0xFFFF00FF#32 = 0xFF#8 := by decide
  simp [and_eq_iff_fields, hMask, hZ, hB, hA, hOp, byte_and_ones]

theorem matches_format0_iff : w &&& 0xFFFFFFFF = pattern ↔ fieldZ w = 0 ∧ fieldB w = 0 ∧ fieldA w = 0 := by
  have hMask : fieldZ 0xFFFFFFFF#32 = 0xFF#8 ∧ fieldB 0xFFFFFFFF#32 = 0xFF#8 ∧ fieldA 0xFFFFFFFF#32 = 0xFF#8 ∧
      fieldOp 0xFFFFFFFF#32 = 0xFF#8 := by decide
  simp [and_eq_iff_fields, hMask, hZ, hB, hA, hOp, byte_and_ones]

end

theorem format2_error {w : Word} (mk : Byte → Byte → Instr) (hZ : fieldZ w ≠ 0) : ∃ e, format2 w mk = .error e :=
  ⟨.reservedZ, if_pos hZ⟩

theorem format1_error {w : Word} (mk : Byte → Instr) (h : ¬ (fieldZ w = 0 ∧ fieldB w = 0)) :
    ∃ e, format1 w mk = .error e := by
  unfold format1
  split_ifs with hZ hB
  · exact ⟨.reservedZ, rfl⟩
  · exact ⟨.reservedB, rfl⟩
  · exact absurd ⟨not_not.mp hZ, not_not.mp hB⟩ h

theorem format0_error {w : Word} (i : Instr) (h : ¬ (fieldZ w = 0 ∧ fieldB w = 0 ∧ fieldA w = 0)) :
    ∃ e, format0 w i = .error e := by
  unfold format0
  split_ifs with hZ hB hA
  · exact ⟨.reservedZ, rfl⟩
  · exact ⟨.reservedB, rfl⟩
  · exact ⟨.reservedA, rfl⟩
  · exact absurd ⟨not_not.mp hZ, not_not.mp hB, not_not.mp hA⟩ h

/-! The rows of the map (R96). -/

theorem opcodeMap_mask : ∀ row ∈ opcodeMap,
    row.mask = 0xFF0000FF ∨ row.mask = 0xFFFF00FF ∨ row.mask = 0xFFFFFFFF := by decide

theorem opcodeMap_pattern : ∀ row ∈ opcodeMap,
    fieldZ row.pattern = 0 ∧ fieldB row.pattern = 0 ∧ fieldA row.pattern = 0 := by decide

/-- Every mask of the map covers OP. -/
theorem fieldOp_of_matches {row : OpRow} (hRow : row ∈ opcodeMap) {w : Word} (hMatch : w &&& row.mask = row.pattern) :
    fieldOp w = fieldOp row.pattern := by
  have hMask : fieldOp row.mask = 0xFF#8 := by
    rcases opcodeMap_mask row hRow with h | h | h <;> rw [h] <;> rfl
  obtain ⟨-, -, -, hOp⟩ := (and_eq_iff_fields w row.mask row.pattern).mp hMatch
  rwa [hMask, byte_and_ones] at hOp

/-! The decoder, by the row that has the word's OP. -/

/-- What the decoder reads from a word whose OP is the row's: the format is the one the row's mask stands for. -/
def OpRow.parse (row : OpRow) (w : Word) : Except DecodeError Instr :=
  if row.mask = 0xFF0000FF then format2 w row.make
  else if row.mask = 0xFFFF00FF then format1 w (row.make · 0)
  else format0 w (row.make 0 0)

theorem OpRow.parse_eq_format2 {row : OpRow} (hMask : row.mask = 0xFF0000FF) (w : Word) :
    row.parse w = format2 w row.make := by simp [OpRow.parse, hMask]

theorem OpRow.parse_eq_format1 {row : OpRow} (hMask : row.mask = 0xFFFF00FF) (w : Word) :
    row.parse w = format1 w (row.make · 0) := by simp [OpRow.parse, hMask]

theorem OpRow.parse_eq_format0 {row : OpRow} (hMask : row.mask = 0xFFFFFFFF) (w : Word) :
    row.parse w = format0 w (row.make 0 0) := by simp [OpRow.parse, hMask]

theorem decode_eq_parse {row : OpRow} (hRow : row ∈ opcodeMap) {w : Word} (hOp : fieldOp w = fieldOp row.pattern) :
    decode w = row.parse w := by
  simp only [opcodeMap, List.mem_cons, List.not_mem_nil, or_false] at hRow
  rw [decode, hOp]
  rcases hRow with rfl | rfl | rfl | rfl | rfl | rfl | rfl | rfl | rfl | rfl | rfl | rfl | rfl | rfl | rfl | rfl | rfl
    <;> rfl

theorem decode_unknownOp {w : Word}
    (hNone : ¬ ∃ row ∈ opcodeMap, (fieldOp row.pattern).toNat = (fieldOp w).toNat) : decode w = .error .unknownOp := by
  unfold decode
  split
  case h_18 => rfl
  all_goals
    next hOp =>
      rw [hOp] at hNone
      exact absurd (by decide) hNone

theorem OpRow.parse_of_matches {row : OpRow} (hRow : row ∈ opcodeMap) {w : Word}
    (hMatch : w &&& row.mask = row.pattern) : row.parse w = .ok (row.make (fieldA w) (fieldB w)) := by
  have hOp := fieldOp_of_matches hRow hMatch
  obtain ⟨hZ, hB, hA⟩ := opcodeMap_pattern row hRow
  rcases opcodeMap_mask row hRow with hMask | hMask | hMask <;> rw [hMask] at hMatch
  · have hZw := (matches_format2_iff hZ hB hA hOp).mp hMatch
    simp [OpRow.parse_eq_format2 hMask, format2, hZw]
  · obtain ⟨hZw, hBw⟩ := (matches_format1_iff hZ hB hA hOp).mp hMatch
    simp [OpRow.parse_eq_format1 hMask, format1, hZw, hBw]
  · obtain ⟨hZw, hBw, hAw⟩ := (matches_format0_iff hZ hB hA hOp).mp hMatch
    simp [OpRow.parse_eq_format0 hMask, format0, hZw, hBw, hAw]

/-- A word with a row's OP that the row's mask and match do not select has a nonzero byte where the format has none. -/
theorem OpRow.parse_error_of_not_matches {row : OpRow} (hRow : row ∈ opcodeMap) {w : Word}
    (hOp : fieldOp w = fieldOp row.pattern) (hMatch : w &&& row.mask ≠ row.pattern) :
    ∃ e, row.parse w = .error e := by
  obtain ⟨hZ, hB, hA⟩ := opcodeMap_pattern row hRow
  rcases opcodeMap_mask row hRow with hMask | hMask | hMask <;> rw [hMask] at hMatch
  · rw [OpRow.parse_eq_format2 hMask]
    exact format2_error _ (mt (matches_format2_iff hZ hB hA hOp).mpr hMatch)
  · rw [OpRow.parse_eq_format1 hMask]
    exact format1_error _ (mt (matches_format1_iff hZ hB hA hOp).mpr hMatch)
  · rw [OpRow.parse_eq_format0 hMask]
    exact format0_error _ (mt (matches_format0_iff hZ hB hA hOp).mpr hMatch)

/-- Settles O2: a match fixes OP, so the decoder reads the word as the row does; a word that no row selects either has
no row's OP or has a row's OP and fails that row's format. -/
theorem opcodeMapDecides : Obligations.OpcodeMapDecides := by
  refine ⟨fun row hRow w hMatch => ?_, fun w hNone => ?_⟩
  · calc decode w = row.parse w := decode_eq_parse hRow (fieldOp_of_matches hRow hMatch)
      _ = .ok (row.make (fieldA w) (fieldB w)) := OpRow.parse_of_matches hRow hMatch
  · by_cases hOp : ∃ row ∈ opcodeMap, (fieldOp row.pattern).toNat = (fieldOp w).toNat
    · obtain ⟨row, hRow, hOp⟩ := hOp
      have hOp := (BitVec.eq_of_toNat_eq hOp).symm
      rw [decode_eq_parse hRow hOp]
      exact OpRow.parse_error_of_not_matches hRow hOp (hNone row hRow)
    · exact ⟨.unknownOp, decode_unknownOp hOp⟩

end Sys2Proof.Machine

/-! SUPPORT. The timestamp codec (spec/40_codec.md R130 to R132): the little-endian layout of a field, the buffer
bytes after a field is stored, and what ENC32 and DEC32 answer when they complete. -/

namespace Sys2Proof.Machine

/-! The layout of a field (R10, R65). -/

theorem trunc32_setWidth (w : Word) : trunc32 (w.setWidth 64) = w := by
  rw [trunc32, BitVec.extractLsb'_setWidth_of_le (by decide)]
  exact BitVec.extractLsb'_eq_self

theorem le32_byteOf (w : Word) : le32 (byteOf w 0) (byteOf w 1) (byteOf w 2) (byteOf w 3) = w := by
  simp only [le32, byteOf]
  rw [BitVec.extractLsb'_append_extractLsb'_eq_extractLsb' (by rfl),
    BitVec.extractLsb'_append_extractLsb'_eq_extractLsb' (by rfl),
    BitVec.extractLsb'_append_extractLsb'_eq_extractLsb' (by rfl)]
  exact BitVec.extractLsb'_eq_self

theorem bytes32_le32 (b0 b1 b2 b3 : Byte) : bytes32 (le32 b0 b1 b2 b3) = [b0, b1, b2, b3] := by
  have h0 : byteOf (le32 b0 b1 b2 b3) 0 = b0 :=
    (BitVec.extractLsb'_append_eq_of_add_le (by decide)).trans BitVec.extractLsb'_append_eq_right
  have h1 : byteOf (le32 b0 b1 b2 b3) 1 = b1 :=
    (BitVec.extractLsb'_append_eq_of_add_le (by decide)).trans BitVec.extractLsb'_append_eq_left
  have h2 : byteOf (le32 b0 b1 b2 b3) 2 = b2 :=
    (BitVec.extractLsb'_append_eq_of_le (by decide)).trans BitVec.extractLsb'_append_eq_right
  have h3 : byteOf (le32 b0 b1 b2 b3) 3 = b3 :=
    (BitVec.extractLsb'_append_eq_of_le (by decide)).trans BitVec.extractLsb'_append_eq_left
  rw [bytes32, h0, h1, h2, h3]

/-- Encoding a field read from RXBUF gives the bytes it was read from. -/
theorem encField_decField (s : State) (off : Nat) :
    encField ((decField s off).setWidth 64) = memRead s.mem .rx off 4 := by
  rw [encField, trunc32_setWidth, decField, bytes32_le32]
  rfl

/-- DEC32 reads the low half of the timestamp whose field stands in RXBUF. -/
theorem decField_of_encField {s : State} {off : Nat} {v : DWord}
    (hField : ∀ n < 4, bufByte s.mem .rx (off + n) = (encField v).getD n 0) : decField s off = trunc32 v := by
  rw [decField, ← Nat.add_zero off, hField 0 (by decide), hField 1 (by decide), hField 2 (by decide),
    hField 3 (by decide)]
  exact le32_byteOf (trunc32 v)

/-! The buffers (R63). -/

/-- A byte of a buffer after bytes were stored over it. -/
theorem bufByte_memWrite_same {m : Memory} (h : m.wf = true) (b : Buf) (off : Nat) {bs : List Byte} {n : Nat}
    (hn : n < bs.length) : bufByte (memWrite m b off bs) b (off + n) = bs.getD n 0 := by
  rw [bufByte, read_memWrite h, if_pos (by omega), show b.base + (off + n) - (b.base + off) = n by omega]

/-! The commands, when they complete (R92, R97, R130, R131). -/

theorem tsOperand_of_index {a : Byte} {r : TsReg} (h : a.toNat = r.index) : tsOperand a = .ok r := by
  have ha : a = BitVec.ofNat 8 r.index := by rw [← h, BitVec.ofNat_toNat, BitVec.setWidth_eq]
  simp [tsOperand, ha]

/-- In Idle a command whose effect succeeds completes with it and clears CMD_FAULT. -/
theorem exec_of_effect {i : Instr} {s t : State} (hIdle : s.phase = .idle) (hEffect : commandEffect i s = .ok t) :
    exec i s = .next { t with cmdFault := .noFault } := by
  have hNotFatal : s.phase ≠ .fatal := by simp [hIdle]
  rw [exec_eq, idleCommand_idle _ hIdle, anytimeCommand, if_neg hNotFatal, ite_self, hEffect, finishCommand]

theorem exec_enc32 {s : State} {ts off : Byte} {r : TsReg} (hIdle : s.phase = .idle) (hReg : ts.toNat = r.index)
    (hOff : off.toNat ≤ 20) (hValid : tsValid s r = true) :
    exec (.enc32 ts off) s =
      .next { storeBytes s .tx off.toNat (encField (tsVal s r)) with cmdFault := .noFault } := by
  refine exec_of_effect hIdle ?_
  rw [commandEffect, tsOperand_of_index hReg]
  exact (enc32Effect_ok_iff ..).mpr ⟨by omega, hValid, rfl⟩

theorem exec_dec32 {s : State} {ts off : Byte} {r : TsReg} (hIdle : s.phase = .idle) (hReg : ts.toNat = r.index)
    (hOff : off.toNat + 4 ≤ rxReadable s) :
    exec (.dec32 ts off) s =
      .next { setTs s r ((decField s off.toNat).setWidth 64) with cmdFault := .noFault } := by
  refine exec_of_effect hIdle ?_
  rw [commandEffect, tsOperand_of_index hReg]
  exact (dec32Effect_ok_iff ..).mpr ⟨hOff, rfl⟩

/-- What ENC32 leaves in TXBUF. -/
theorem enc32_completes {s : State} {ts off : Byte} {r : TsReg} (hIdle : s.phase = .idle) (hWf : s.mem.wf = true)
    (hReg : ts.toNat = r.index) (hOff : off.toNat ≤ 20) (hValid : tsValid s r = true) :
    ∃ t, exec (.enc32 ts off) s = .next t ∧
      ∀ n < 4, bufByte t.mem .tx (off.toNat + n) = (encField (tsVal s r)).getD n 0 :=
  ⟨_, exec_enc32 hIdle hReg hOff hValid, fun _ hn => bufByte_memWrite_same hWf .tx off.toNat hn⟩

/-- What DEC32 leaves in the register, and what ENC32 of that register needs. -/
theorem dec32_completes {s : State} {ts off : Byte} {r : TsReg} (hIdle : s.phase = .idle) (hReg : ts.toNat = r.index)
    (hOff : off.toNat + 4 ≤ rxReadable s) :
    ∃ t, exec (.dec32 ts off) s = .next t ∧ t.phase = .idle ∧ t.mem = s.mem ∧ tsValid t r = true ∧
      tsVal t r = (decField s off.toNat).setWidth 64 :=
  ⟨_, exec_dec32 hIdle hReg hOff, hIdle, rfl, by simp [tsValid], by simp [tsVal]⟩

/-! The round trip (R132). -/

theorem dec32_after_enc32 {s t u : State} {i j off : Byte} {ri rj : TsReg} (hIdle : s.phase = .idle)
    (hWf : s.mem.wf = true) (hi : i.toNat = ri.index) (hj : j.toNat = rj.index) (hOff : off.toNat ≤ 20)
    (hValid : tsValid s ri = true) (hEnc : exec (.enc32 i off) s = .next t) (hIdleU : u.phase = .idle)
    (hLen : off.toNat + 4 ≤ u.rxLen.toNat)
    (hCopy : ∀ n < 4, bufByte u.mem .rx (off.toNat + n) = bufByte t.mem .tx (off.toNat + n)) :
    ∃ v, exec (.dec32 j off) u = .next v ∧ tsValid v rj = true ∧
      tsVal v rj = (trunc32 (tsVal s ri)).setWidth 64 := by
  obtain ⟨t', hEnc', hField⟩ := enc32_completes hIdle hWf hi hOff hValid
  obtain rfl : t = t' := Host.Outcome.next.inj (hEnc.symm.trans hEnc')
  have hDecoded : decField u off.toNat = trunc32 (tsVal s ri) :=
    decField_of_encField fun n hn => (hCopy n hn).trans (hField n hn)
  have hInside : off.toNat + 4 ≤ rxReadable u := le_min hLen (by simp only [frameBufLen]; omega)
  obtain ⟨v, hDec, -, -, hValidV, hVal⟩ := dec32_completes hIdleU hj hInside
  exact ⟨v, hDec, hValidV, by rw [hVal, hDecoded]⟩

theorem enc32_after_dec32 {u : State} {j off : Byte} {r : TsReg} (hIdle : u.phase = .idle) (hWf : u.mem.wf = true)
    (hj : j.toNat = r.index) (hInside : off.toNat + 4 ≤ rxReadable u) :
    ∃ v x, exec (.dec32 j off) u = .next v ∧ exec (.enc32 j off) v = .next x ∧
      ∀ n < 4, bufByte x.mem .tx (off.toNat + n) = bufByte u.mem .rx (off.toNat + n) := by
  have hFits : off.toNat + 4 ≤ 24 := hInside.trans (min_le_right _ _)
  have hOff : off.toNat ≤ 20 := by omega
  obtain ⟨v, hDec, hIdleV, hMem, hValid, hVal⟩ := dec32_completes hIdle hj hInside
  obtain ⟨x, hEnc, hField⟩ := enc32_completes hIdleV (hMem ▸ hWf) hj hOff hValid
  refine ⟨v, x, hDec, hEnc, fun n hn => ?_⟩
  rw [hField n hn, hVal, encField_decField]
  interval_cases n <;> rfl

/-- Settles O12: ENC32 followed by DEC32 keeps the low half of the timestamp, because `le32` undoes `bytes32`; DEC32
followed by ENC32 keeps the four bytes, because `bytes32` undoes `le32`. -/
theorem codecRoundTrip : Obligations.CodecRoundTrip :=
  ⟨fun _ _ _ _ _ _ _ _ hIdle hWf hi hj hOff hValid hEnc hIdleU hLen hCopy =>
      dec32_after_enc32 hIdle hWf hi hj hOff hValid hEnc hIdleU hLen hCopy,
    fun _ _ _ _ hIdle hWf hj hInside => enc32_after_dec32 hIdle hWf hj hInside⟩

end Sys2Proof.Machine

/-! SUPPORT. The Frame Catalog (spec/41_frame_catalog.md R140 to R145): what it means that a received frame matches,
the header BUILD leaves in TXBUF, the header the two devices agree on, and BUILD and VALIDATE when they complete. -/

namespace Sys2Proof.Machine

/-! A command that leaves no fault has had its effect (R97, R300). -/

theorem bind_ne_noFault {α β : Type} {x : Except CmdFault α} {f : α → Except CmdFault β}
    (hx : x ≠ .error .noFault) (hf : ∀ a, f a ≠ .error .noFault) : (x >>= f) ≠ .error .noFault := by
  cases x with
  | error c => exact fun h => hx (congrArg Except.error (Except.error.inj h))
  | ok a => exact hf a

theorem msgOperand_ne_noFault (a : Byte) : msgOperand a ≠ .error .noFault := by
  unfold msgOperand
  split <;> simp

theorem needMsg_ne_noFault (c : Config) (m : Msg) : needMsg c m ≠ .error .noFault := by
  unfold needMsg
  split <;> simp

theorem needTs_ne_noFault (s : State) (rs : List TsReg) : needTs s rs ≠ .error .noFault := by
  unfold needTs
  split <;> simp

theorem commandEffect_validate_ne_noFault (msg : Byte) (s : State) :
    commandEffect (.validate msg) s ≠ .error .noFault :=
  bind_ne_noFault (msgOperand_ne_noFault msg) fun m => bind_ne_noFault (needMsg_ne_noFault s.cfg m) fun _ => nofun

theorem commandEffect_build_ne_noFault (msg : Byte) (s : State) :
    commandEffect (.build msg) s ≠ .error .noFault :=
  bind_ne_noFault (msgOperand_ne_noFault msg) fun m => bind_ne_noFault (needMsg_ne_noFault s.cfg m) fun _ =>
    bind_ne_noFault (needTs_ne_noFault s _) fun _ => nofun

/-- In Idle, a command whose effect never answers "no fault" as its error has had its effect when CMD_FAULT is 0. -/
theorem commandEffect_of_exec {i : Instr} {s t : State} (hIdle : s.phase = .idle) (hExec : exec i s = .next t)
    (hFault : t.cmdFault = .noFault) (hError : commandEffect i s ≠ .error .noFault) :
    ∃ u, commandEffect i s = .ok u ∧ t = { u with cmdFault := .noFault } := by
  cases hEffect : commandEffect i s with
  | ok u => exact ⟨u, rfl, Host.Outcome.next.inj (hExec.symm.trans (exec_of_effect hIdle hEffect))⟩
  | error c =>
    have hNotFatal : s.phase ≠ .fatal := by simp [hIdle]
    rw [exec_eq, idleCommand_idle _ hIdle, anytimeCommand, if_neg hNotFatal, ite_self, hEffect] at hExec
    obtain rfl : raiseCmdFault s c = t := Host.Outcome.next.inj hExec
    obtain rfl : c = .noFault := hFault
    exact absurd hEffect hError

/-! VALIDATE and BUILD, when they complete (R142, R143). -/

theorem exec_validate {s : State} {msg : Byte} {m : Msg} (hIdle : s.phase = .idle) (hMsg : msg? msg = some m)
    (hExists : msgExists s.cfg m = true) :
    exec (.validate msg) s = .next { s with vok := frameMatches m s, cmdFault := .noFault } := by
  refine exec_of_effect (t := { s with vok := frameMatches m s }) hIdle ?_
  rw [commandEffect, msgOperand, hMsg]
  exact (validateEffect_ok_iff ..).mpr ⟨hExists, rfl⟩

theorem validate_completed {s t : State} {msg : Byte} (hIdle : s.phase = .idle)
    (hExec : exec (.validate msg) s = .next t) (hFault : t.cmdFault = .noFault) :
    ∃ m, msg? msg = some m ∧ msgExists s.cfg m = true ∧ t.vok = frameMatches m s := by
  obtain ⟨u, hEffect, rfl⟩ := commandEffect_of_exec hIdle hExec hFault (commandEffect_validate_ne_noFault msg s)
  obtain ⟨m, hMsg, hEffect⟩ := msgOperand_bind_ok (f := fun m => validateEffect m s) hEffect
  obtain ⟨hExists, rfl⟩ := (validateEffect_ok_iff ..).mp hEffect
  exact ⟨m, hMsg, hExists, rfl⟩

theorem build_completed {s t : State} {msg : Byte} (hIdle : s.phase = .idle)
    (hExec : exec (.build msg) s = .next t) (hFault : t.cmdFault = .noFault) :
    ∃ m, msg? msg = some m ∧ msgExists s.cfg m = true ∧ t.mem = (built m s).mem ∧ t.txLen = (built m s).txLen := by
  obtain ⟨u, hEffect, rfl⟩ := commandEffect_of_exec hIdle hExec hFault (commandEffect_build_ne_noFault msg s)
  obtain ⟨m, hMsg, hEffect⟩ := msgOperand_bind_ok (f := fun m => buildEffect m s) hEffect
  obtain ⟨hExists, -, rfl⟩ := (buildEffect_ok_iff ..).mp hEffect
  exact ⟨m, hMsg, hExists, rfl, rfl⟩

/-! A frame that matches (R143), and one byte of it replaced (R144). -/

theorem mem_comparedOffsets (j : Nat) : j ∈ comparedOffsets ↔ j < 10 ∧ j ≠ 2 := by
  simp only [comparedOffsets, List.mem_cons, List.not_mem_nil, or_false]
  omega

theorem frameMatches_iff (m : Msg) (s : State) :
    frameMatches m s = true ↔ s.rxLen.toNat = frameLen m ∧
      ∀ j, j < 10 → j ≠ 2 → bufByte s.mem .rx j = (template s.cfg s.mat m).getD j 0 := by
  simp only [frameMatches, Bool.and_eq_true, decide_eq_true_eq, List.all_eq_true, mem_comparedOffsets, and_imp]

theorem bufByte_memWrite_byte {m : Memory} (hWf : m.wf = true) (buf : Buf) (i j : Nat) (b : Byte) :
    bufByte (memWrite m buf i [b]) buf j = if j = i then b else bufByte m buf j := by
  split_ifs with h
  · subst h
    exact bufByte_memWrite_same hWf buf j (bs := [b]) (n := 0) (by simp)
  · rw [bufByte, read_memWrite hWf, if_neg (by simp only [List.length_singleton]; omega), bufByte]

/-- The byte replaced is compared with the template, which the byte it replaces equals, unless it is the sequence
number; every other byte is as it was. -/
theorem frameMatches_storeBytes_iff {m : Msg} {s : State} (hWf : s.mem.wf = true) (hMatch : frameMatches m s = true)
    {i : Nat} (hi : i < 10) (b : Byte) :
    frameMatches m (storeBytes s .rx i [b]) = true ↔ i = 2 ∨ b = bufByte s.mem .rx i := by
  obtain ⟨hLen, hHeader⟩ := (frameMatches_iff m s).mp hMatch
  simp only [frameMatches_iff, storeBytes_rxLen, storeBytes_mem, storeBytes_cfg, storeBytes_mat,
    bufByte_memWrite_byte hWf]
  constructor
  · rintro ⟨-, hStored⟩
    by_cases hSeq : i = 2
    · exact .inl hSeq
    · have hb := hStored i hi hSeq
      rw [if_pos rfl] at hb
      exact .inr (hb.trans (hHeader i hi hSeq).symm)
  · intro hAllowed
    refine ⟨hLen, fun j hj hSeq => ?_⟩
    split_ifs with hji
    · subst hji
      have hb : b = bufByte s.mem .rx j := hAllowed.resolve_left hSeq
      rw [hb, hHeader j hj hSeq]
    · exact hHeader j hj hSeq

/-- Settles O15: VALIDATE of the changed frame completes like that of the frame itself, and its verdict is that of the
one byte replaced. -/
theorem sequenceNumberIsNotCompared : Obligations.SequenceNumberIsNotCompared := by
  intro s t msg b i hIdle hWf hExec hFault hVok hi
  obtain ⟨m, hMsg, hExists, hVerdict⟩ := validate_completed hIdle hExec hFault
  have hMatch : frameMatches m s = true := hVerdict ▸ hVok
  refine ⟨_, exec_validate (s := storeBytes s .rx i [b]) hIdle hMsg hExists, rfl, ?_⟩
  rw [Bool.eq_iff_iff, decide_eq_true_iff]
  exact frameMatches_storeBytes_iff hWf hMatch hi b

/-! The frame BUILD leaves (R142) and the header its receiver expects (R141, R145). -/

theorem built_txLen_toNat (m : Msg) (s : State) : (built m s).txLen.toNat = frameLen m := by cases m <;> rfl

/-- Outside the sequence number the header in TXBUF is the message's template. -/
theorem bufByte_built_header {m : Msg} {s : State} (hWf : s.mem.wf = true) {j : Nat} (hj : j < 10) (hSeq : j ≠ 2) :
    bufByte (built m s).mem .tx j = (template s.cfg s.mat m).getD j 0 := by
  have hHolds : Buf.tx.holds (Buf.tx.base + j) = true := by
    rw [Buf.holds_tx, show Buf.tx.base = 384 from rfl]
    omega
  rw [bufByte, built, build_read m s hWf, if_pos hHolds, Nat.add_sub_cancel_left, frameBytes,
    List.getD_append _ _ _ _ (by rw [headerBytes_length]; exact hj), List.getD_eq_getElem?_getD,
    List.getElem?_set_ne hSeq.symm, ← List.getD_eq_getElem?_getD]

/-- Of two devices of opposite roles exactly one sends each message. -/
theorem outbound_opposite {c d : Config} (hRole : c.role ≠ d.role) (m : Msg) : outbound d m = !outbound c m := by
  unfold outbound
  generalize c.role = r at hRole
  generalize d.role = q at hRole
  cases r with
  | initiator =>
    cases q with
    | initiator => exact absurd rfl hRole
    | responder => cases m <;> rfl
  | responder =>
    cases q with
    | initiator => cases m <;> rfl
    | responder => exact absurd rfl hRole

/-- The two devices expect the same header of a message: the one that sends it reads its own address where the other
reads its peer's. -/
theorem template_mirrored {c d : Config} {k l : KeyMaterial} (hRole : c.role ≠ d.role)
    (hVariant : c.variant = d.variant) (hCodes : c.codes = d.codes) (hSrc : k.srcAddr = l.dstAddr)
    (hDst : k.dstAddr = l.srcAddr) (m : Msg) : template d l m = template c k m := by
  have hCode : functionCode d m = functionCode c m := by
    unfold functionCode
    rw [hVariant, hCodes]
  simp only [template, hCode, outbound_opposite hRole, hSrc, hDst]
  cases outbound c m <;> rfl

theorem msgExists_congr {c d : Config} (hVariant : c.variant = d.variant) (m : Msg) :
    msgExists c m = msgExists d m := by rw [msgExists, msgExists, hVariant]

/-- Settles O16: BUILD leaves the sender's template in the compared bytes, and the receiver's template is the same. -/
theorem builtFrameValidatesAtPeer : Obligations.BuiltFrameValidatesAtPeer := by
  intro a b t msg m hRole hVariant hCodes hSrc hDst hIdleA hIdleB hWf hMsg _ hExec hFault hLen hReceived
  obtain ⟨m', hMsg', hExists, hMem, hTxLen⟩ := build_completed hIdleA hExec hFault
  obtain rfl : m = m' := Option.some.inj (hMsg.symm.trans hMsg')
  have hTxLen : t.txLen.toNat = frameLen m := by rw [hTxLen, built_txLen_toNat]
  have hLong : 12 ≤ frameLen m := by cases m <;> decide
  have hMatch : frameMatches m b = true := by
    refine (frameMatches_iff m b).mpr ⟨hLen.trans hTxLen, fun j hj hSeq => ?_⟩
    calc bufByte b.mem .rx j = bufByte t.mem .tx j := hReceived j (by omega)
      _ = (template a.cfg a.mat m).getD j 0 := by rw [hMem, bufByte_built_header hWf hj hSeq]
      _ = (template b.cfg b.mat m).getD j 0 := by rw [template_mirrored hRole hVariant hCodes hSrc hDst]
  exact ⟨_, exec_validate hIdleB hMsg (msgExists_congr hVariant m ▸ hExists), rfl, hMatch⟩

end Sys2Proof.Machine

/-! SUPPORT. Wrapped differences in the Time-of-Flight Calculator (spec/42_tof.md R160, R161, R168): truncation commutes
with subtraction, so a wrapped difference is a function of the 64-bit difference and a common offset cancels in it; TOFSS,
when it completes, uses POLL_TX_TS and RESP_RX_TS through wrapped differences alone. -/

namespace Sys2Proof.Machine

/-! Wrapped differences (R160, R173). -/

theorem extractLsb'_sub_extractLsb' (x y : DWord) {n : Nat} (hn : n ≤ 64) :
    x.extractLsb' 0 n - y.extractLsb' 0 n = (x - y).extractLsb' 0 n := by
  simp only [← BitVec.setWidth_eq_extractLsb' hn, sub_eq_add_neg, BitVec.setWidth_add _ _ hn,
    BitVec.setWidth_neg_of_le hn]

theorem trunc32_sub (x y : DWord) : trunc32 x - trunc32 y = trunc32 (x - y) :=
  extractLsb'_sub_extractLsb' x y (by decide)

theorem trunc40_sub (x y : DWord) : trunc40 x - trunc40 y = trunc40 (x - y) :=
  extractLsb'_sub_extractLsb' x y (by decide)

theorem trunc32_sub_common_offset (x y c : DWord) : trunc32 (x + c) - trunc32 (y + c) = trunc32 x - trunc32 y := by
  rw [trunc32_sub, trunc32_sub, add_sub_add_right_eq_sub]

theorem trunc40_sub_common_offset (x y c : DWord) : trunc40 (x + c) - trunc40 (y + c) = trunc40 x - trunc40 y := by
  rw [trunc40_sub, trunc40_sub, add_sub_add_right_eq_sub]

/-- A true interval below 2^32 is not wrapped (R168). -/
theorem trunc32_sub_toNat {x y : DWord} (hle : y.toNat ≤ x.toNat) (hlt : x.toNat - y.toNat < 2 ^ 32) :
    (trunc32 x - trunc32 y).toNat = x.toNat - y.toNat := by
  have hSub : (x - y).toNat = x.toNat - y.toNat := BitVec.toNat_sub_of_le hle
  rw [trunc32_sub, trunc32, BitVec.extractLsb'_toNat, Nat.shiftRight_zero, hSub, Nat.mod_eq_of_lt hlt]

/-! TOFSS (R161, R163, R173). -/

theorem exec_tofss {s : State} (hIdle : s.phase = .idle)
    (hValid : tsAllValid s [.pollTx, .pollRx, .respTx, .respRx] = true) :
    exec .tofss s = .next
      { setResults s (tofSsDtu s) with wrapFlag := longPair s .respRx .pollTx, cmdFault := .noFault } :=
  exec_of_effect (i := .tofss) hIdle ((tofssEffect_ok_iff s _).mpr ⟨hValid, rfl⟩)

/-- Writing a timestamp register invalidates none. -/
theorem tsAllValid_setTs {s : State} {rs : List TsReg} (r : TsReg) (v : DWord) (h : tsAllValid s rs = true) :
    tsAllValid (setTs s r v) rs = true :=
  List.all_eq_true.mpr fun q hq => by rw [setTs_tsValid, List.all_eq_true.mp h q hq, Bool.or_true]

section
variable {s : State} {p r : DWord}

/-- The round trip of the responder is measured on its own two registers, and the initiator's is a wrapped difference. -/
theorem tofSsDtu_setTs (h : trunc32 r - trunc32 p = d32 s .respRx .pollTx) :
    tofSsDtu (setTs (setTs s .pollTx p) .respRx r) = tofSsDtu s := by
  have hInit : d32 (setTs (setTs s .pollTx p) .respRx r) .respRx .pollTx = d32 s .respRx .pollTx := by
    simpa [d32, setTs_tsVal] using h
  have hResp : d32 (setTs (setTs s .pollTx p) .respRx r) .respTx .pollRx = d32 s .respTx .pollRx := by
    simp [d32, setTs_tsVal]
  simp only [tofSsDtu, dF64, hInit, hResp, setTs_kRaw]

theorem longPair_setTs (h : trunc40 r - trunc40 p = d40 s .pollTx .respRx) :
    longPair (setTs (setTs s .pollTx p) .respRx r) .respRx .pollTx = longPair s .respRx .pollTx := by
  simp only [longPair, long40, setTs_tsVal, reduceCtorEq, if_true, if_false, h, d40]

/-- New values of POLL_TX_TS and RESP_RX_TS with the same wrapped differences, 32-bit and 40-bit, change nothing that
TOFSS computes. -/
theorem exec_tofss_setTs (hIdle : s.phase = .idle)
    (hValid : tsAllValid s [.pollTx, .pollRx, .respTx, .respRx] = true)
    (h32 : trunc32 r - trunc32 p = d32 s .respRx .pollTx) (h40 : trunc40 r - trunc40 p = d40 s .pollTx .respRx)
    {t : State} (hExec : exec .tofss s = .next t) :
    exec .tofss (setTs (setTs s .pollTx p) .respRx r) = .next (setTs (setTs t .pollTx p) .respRx r) := by
  obtain rfl := Host.Outcome.next.inj (hExec.symm.trans (exec_tofss hIdle hValid))
  have hMoved := exec_tofss (s := setTs (setTs s .pollTx p) .respRx r) hIdle
    (tsAllValid_setTs .respRx r (tsAllValid_setTs .pollTx p hValid))
  rw [hMoved, tofSsDtu_setTs h32, longPair_setTs h40]
  rfl

end

/-- Settles O18: the offset cancels in both wrapped differences of the initiator's pair, the 32-bit one of the formula and
the 40-bit one of WRAP_FLAG, and TOFSS reads the pair in no other way. -/
theorem tofssIgnoresCommonOffset : Obligations.TofssIgnoresCommonOffset :=
  ⟨trunc32_sub_common_offset, fun _ _ hle hlt => trunc32_sub_toNat hle hlt, fun _ _ _ hIdle hValid hExec =>
    exec_tofss_setTs hIdle hValid (trunc32_sub_common_offset ..) (trunc40_sub_common_offset ..) hExec⟩

end Sys2Proof.Machine

/-! SUPPORT. The STS Session Manager (spec/43_sts_session.md R183, R184, R188): the material a rekey gives to each
role, that nothing but reset and the start of a cycle touches the active material, and what a cycle start makes of a
rekey that is pending. -/

namespace Sys2Proof.Machine

/-! The crossover (R183). -/

@[simp] theorem materialOf_key (r : Role) (p : Mailbox) : (materialOf r p).key = p.key := by cases r <;> rfl

@[simp] theorem materialOf_iv (r : Role) (p : Mailbox) : (materialOf r p).iv = p.iv := by cases r <;> rfl

theorem materialOf_addrs (r : Role) (p : Mailbox) :
    ((materialOf r p).srcAddr, (materialOf r p).dstAddr) =
      if r = .initiator then (p.src, p.dest) else (p.dest, p.src) := by cases r <;> rfl

theorem exec_applykey_pending {s : State} (hIdle : s.phase = .idle) (hPend : s.pend.valid = true) :
    exec .applykey s = .next { s with
      mat := materialOf s.cfg.role s.pend, firstCycle := true, pend := { s.pend with valid := false }
      cmdFault := .noFault } := by
  have hApply : applyKey s = { s with
      mat := materialOf s.cfg.role s.pend, firstCycle := true, pend := { s.pend with valid := false } } := if_pos hPend
  exact exec_of_effect (i := .applykey) hIdle (congrArg Except.ok hApply)

/-- Settles O26: each role's material is the mailbox's, the Responder's addresses crossed, and so the templates of the
two agree. -/
theorem crossoverMirrorsAddresses : Obligations.CrossoverMirrorsAddresses := by
  intro a b hIdleA hIdleB hRoleA hRoleB hPend hSame
  have hExecA := exec_applykey_pending hIdleA hPend
  have hExecB := exec_applykey_pending hIdleB (hSame ▸ hPend)
  rw [hRoleA] at hExecA
  rw [hRoleB, hSame] at hExecB
  have hRole : a.cfg.role ≠ b.cfg.role := by rw [hRoleA, hRoleB]; decide
  exact ⟨_, _, hExecA, hExecB, rfl, rfl, rfl, rfl, rfl, rfl,
    fun hVariant hCodes m => (template_mirrored hRole hVariant hCodes rfl rfl m).symm⟩

/-! What leaves the active material alone (R188): every operation of the sequencer but the cycle start. -/

theorem seqOutcome_mat {s : State} {x : Except CmdFault State} (h : ∀ t, x = .ok t → t.mat = s.mat) :
    (seqOutcome s x).mat = s.mat := by
  cases x with
  | ok t => exact h t rfl
  | error c => rfl

theorem txWait_mat {next : State → State} (hNext : ∀ u, (next u).mat = u.mat) (s : State) :
    (txWait s next).mat = s.mat := by
  obtain ⟨e, -, h | h | h⟩ := txWait_frame next s <;> rw [h]
  exact hNext _

theorem rxWait_mat {go : State → Except CmdFault State} (hGo : ∀ u t, go u = .ok t → t.mat = u.mat) (m : Msg)
    (s : State) : (rxWait m go s).mat = s.mat := by
  obtain ⟨e, -, h | h | ⟨k, mask, h⟩ | ⟨mem, len, -, -, h | ⟨t, hOk, h⟩⟩⟩ := rxWait_frame m go s <;> rw [h]
  · rfl
  · rfl
  · exact (hGo _ _ hOk :)

theorem gotResponse_mat {s t : State} (h : gotResponse s = .ok t) : t.mat = s.mat := by
  obtain ⟨_, _, _, _, rfl, -⟩ := gotResponse_ok h
  rfl

theorem gotPoll_mat {s t : State} (h : gotPoll s = .ok t) : t.mat = s.mat := by
  obtain ⟨_, _, _, _, -, -, -, -, -, rfl | rfl⟩ := gotPoll_ok h <;> rfl

theorem gotFinal_mat {s t : State} (h : gotFinal s = .ok t) : t.mat = s.mat := by
  obtain ⟨_, _, _, rfl, -⟩ := gotFinal_ok h
  rfl

theorem responseSent_mat (s : State) : (responseSent s).mat = s.mat := by
  unfold responseSent
  split <;> rfl

theorem sendFinal_mat {s t : State} (h : sendFinal s = .ok t) : t.mat = s.mat := by
  obtain ⟨_, _, _, _, -, -, -, -, rfl | rfl⟩ := sendFinal_ok h <;> rfl

theorem computeInitiator_mat {s t : State} (h : computeInitiator s = .ok t) : t.mat = s.mat := by
  obtain ⟨u, _, _, _, _, _, _, _, _, _, rfl, ⟨-, rfl⟩ | ⟨-, hFinal⟩⟩ := computeInitiator_ok h
  · rfl
  · exact (sendFinal_mat hFinal :)

theorem computeResponder_mat {s t : State} (h : computeResponder s = .ok t) : t.mat = s.mat := by
  obtain ⟨_, _, _, _, _, _, _, _, _, rfl⟩ := computeResponder_ok h
  rfl

theorem initStep_mat (s : State) : (initStep s).mat = s.mat := by
  obtain ⟨e, -, h | ⟨c, -, h⟩⟩ := initStep_cases s <;> rw [h]

/-- The sequencer changes the active material only where it starts a cycle. -/
theorem seqStep_mat_of_not_idle {s : State} (hNotIdle : s.phase ≠ .idle) : (seqStep s).mat = s.mat := by
  unfold seqStep
  cases hPhase : s.phase with
  | init => exact initStep_mat s
  | idle => exact absurd hPhase hNotIdle
  | sendPoll => exact txWait_mat (next := fun u => { u with phase := .awaitResponse }) (fun _ => rfl) s
  | awaitResponse => exact rxWait_mat (fun _ _ => gotResponse_mat) _ s
  | sendFinal => exact txWait_mat endCycle_mat s
  | awaitPoll => exact rxWait_mat (fun _ _ => gotPoll_mat) _ s
  | sendResponse => exact txWait_mat responseSent_mat s
  | awaitFinal => exact rxWait_mat (fun _ _ => gotFinal_mat) _ s
  | compute =>
    cases s.cfg.role with
    | initiator => exact seqOutcome_mat fun _ => computeInitiator_mat
    | responder => exact seqOutcome_mat fun _ => computeResponder_mat
  | fatal => rfl

/-- Outside Idle the one command accepted is POSTKEY, which writes the mailbox (R181). -/
theorem exec_mat_of_not_idle {i : Instr} {s t : State} (hNotIdle : s.phase ≠ .idle) (hExec : exec i s = .next t) :
    t.mat = s.mat := by
  rcases exec_cases i s with ⟨-, h⟩ | ⟨-, c, h⟩ | ⟨hPhase, u, hEffect, h⟩
  · cases h.symm.trans hExec
    rfl
  · cases h.symm.trans hExec
    rfl
  · obtain ⟨rfl, -⟩ := hPhase.resolve_left hNotIdle
    cases hEffect
    cases h.symm.trans hExec
    rfl

theorem writeReg_mat (s : State) (v : Word) (r : Reg) : (writeReg s v r).mat = s.mat := by
  obtain ⟨_, _, _, _, _, _, h, -⟩ := writeReg_frame s v r
  rw [h]

/-- Outside Idle only the reset event changes the active material. -/
theorem step_mat_of_not_idle {s t : State} (hNotIdle : s.phase ≠ .idle) (hReset : resetNext s = false)
    (hStep : step s = .next t) : t.mat = s.mat := by
  obtain ⟨-, rfl⟩ | ⟨x, rest, hInputs, h⟩ := step_cases hStep
  · exact seqStep_mat_of_not_idle hNotIdle
  obtain ⟨-, rfl⟩ | ⟨rfl, -⟩ | ⟨a, -, rfl⟩ | ⟨w, i, -, -, hExec⟩ | ⟨w, e, -, -, rfl⟩ |
    ⟨a, v, -, -, -, ⟨r, -, -, rfl⟩ | ⟨-, rfl⟩⟩ := h
  · exact seqStep_mat_of_not_idle (s := withInputs s rest) hNotIdle
  · simp [resetNext, hInputs] at hReset
  · rfl
  · exact exec_mat_of_not_idle (s := withInputs s rest) hNotIdle hExec
  · split <;> rfl
  · exact writeReg_mat _ v r
  · rfl

/-! The start of a cycle with a rekey pending (R184, R185, R202). -/

theorem cycleHead_mat_of_pending {s : State} (hPend : s.pend.valid = true) :
    (cycleHead s).mat = materialOf s.cfg.role s.pend := by simp [cycleHead_eq, hPend]

theorem cycleHead_calls_of_pending {s : State} (hPend : s.pend.valid = true) :
    (cycleHead s).env.calls = s.env.calls ++ [.setStsKey s.pend.key, .setStsIv s.pend.iv] := by
  simp [cycleHead_eq, hPend]

theorem cycleHead_cfg (s : State) : (cycleHead s).cfg = s.cfg := by simp [cycleHead_eq]

theorem cycleHead_mem (s : State) : (cycleHead s).mem = s.mem := by simp [cycleHead_eq]

theorem pollSent_mem (s : State) : (pollSent s).mem = (built .poll s).mem := by simp only [pollSent]

theorem pollSent_calls (s : State) : ∃ more, (pollSent s).env.calls = s.env.calls ++ more := ⟨_, rfl⟩

theorem armForPoll_calls (s : State) : ∃ more, (armForPoll s).env.calls = s.env.calls ++ more :=
  ⟨_, List.append_assoc ..⟩

/-- After its head the cycle start keeps the material and only adds radio calls; on an Initiator it builds the Poll. -/
theorem cycleStart_after_head (s : State) :
    ∃ u, cycleStart s = .ok u ∧ u.mat = (cycleHead s).mat ∧ (∃ more, u.env.calls = (cycleHead s).env.calls ++ more) ∧
      (s.cfg.role = .initiator → u.mem = (built .poll (cycleHead s)).mem) := by
  refine ⟨_, cycleStart_eq s, ?_⟩
  generalize cycleHead s = h
  cases s.cfg.role with
  | initiator => exact ⟨rfl, pollSent_calls h, fun _ => pollSent_mem h⟩
  | responder => exact ⟨rfl, armForPoll_calls h, nofun⟩

/-- RUN and the sequencer's turn under AUTO start the same cycle, but for CMD_FAULT (R201, R203). -/
theorem cycleStart_of_start {s t : State} (hIdle : s.phase = .idle)
    (hStart : exec .run s = .next t ∨ (s.auto = true ∧ seqStep s = t)) :
    ∃ u fault, cycleStart s = .ok u ∧ t = { u with cmdFault := fault } := by
  obtain ⟨u, hCycle, -⟩ := cycleStart_after_head s
  obtain hExec | ⟨hAuto, rfl⟩ := hStart
  · have hRun := exec_of_effect (i := .run) hIdle hCycle
    exact ⟨u, .noFault, hCycle, Host.Outcome.next.inj (hExec.symm.trans hRun)⟩
  · refine ⟨u, u.cmdFault, hCycle, ?_⟩
    rw [seqStep_idle hIdle, if_pos hAuto, hCycle]
    rfl

/-- The header BUILD leaves in TXBUF carries the addresses of the active material (R141, R142). -/
theorem headerAt_built (m : Msg) {s : State} (hWf : s.mem.wf = true) :
    headerAt (built m s).mem .tx s.cfg s.mat m := by
  have hByte {j : Nat} (hj : j < 10) (hSeq : j ≠ 2) := bufByte_built_header (m := m) hWf hj hSeq
  refine ⟨?_, ?_, ?_, ?_, ?_, ?_, ?_, ?_, ?_⟩ <;> exact hByte (by decide) (by decide)

/-- Settles O28: outside Idle no step but reset touches the material, and the head of a cycle makes a pending rekey the
active material and hands it to the radio before the cycle goes on. -/
theorem keyMaterialIsStableInFlight : Obligations.KeyMaterialIsStableInFlight := by
  refine ⟨fun s t => step_mat_of_not_idle, fun s t hIdle hWf hPend hStart => ?_⟩
  obtain ⟨u, fault, hCycle, rfl⟩ := cycleStart_of_start hIdle hStart
  obtain ⟨u', hCycle', hMat, hCalls, hPoll⟩ := cycleStart_after_head s
  obtain rfl : u' = u := Except.ok.inj (hCycle'.symm.trans hCycle)
  rw [cycleHead_calls_of_pending hPend] at hCalls
  have hNew : u'.mat = materialOf s.cfg.role s.pend := hMat.trans (cycleHead_mat_of_pending hPend)
  refine ⟨?_, ?_, ?_, hCalls, fun hRole => ?_⟩
  · exact hNew ▸ materialOf_key _ _
  · exact hNew ▸ materialOf_iv _ _
  · exact hNew ▸ materialOf_addrs _ _
  · have hHeader := headerAt_built .poll (s := cycleHead s) (cycleHead_mem s ▸ hWf)
    rwa [← hPoll hRole, ← hMat, cycleHead_cfg] at hHeader

end Sys2Proof.Machine

/-! SUPPORT. SEQ and TSCLR (spec/44_sequencer.md R230, R232): that nothing but reset, SEQINC and a finished
transmission changes SEQ, and what the host port shows of the timestamp registers when none is valid. -/

namespace Sys2Proof.Machine

/-! SEQINC (R230). -/

theorem seq_add_one_eq_ofNat (q : Byte) : q + 1 = BitVec.ofNat 8 ((q.toNat + 1) % 256) := by bv_omega

theorem exec_seqinc_idle {s : State} (hIdle : s.phase = .idle) :
    exec .seqinc s = .next { s with seq := s.seq + 1, cmdFault := .noFault } :=
  exec_of_effect (i := .seqinc) hIdle rfl

theorem exec_seqinc_busy {s : State} (hNotIdle : s.phase ≠ .idle) (hNotFatal : s.phase ≠ .fatal) :
    exec .seqinc s = .next { s with cmdFault := .busy } :=
  congrArg Host.Outcome.next (idleCommand_busy _ hNotFatal hNotIdle)

/-- Every command but SEQINC leaves SEQ alone. -/
theorem commandEffect_seq {i : Instr} {s t : State} (hOther : i ≠ .seqinc) (h : commandEffect i s = .ok t) :
    t.seq = s.seq := by
  cases i with
  | enc32 ts off =>
    obtain ⟨r, -, h⟩ := tsOperand_bind_ok h
    obtain ⟨-, -, rfl⟩ := (enc32Effect_ok_iff _ _ _ _).mp h
    rfl
  | dec32 ts off =>
    obtain ⟨r, -, h⟩ := tsOperand_bind_ok h
    obtain ⟨-, rfl⟩ := (dec32Effect_ok_iff _ _ _ _).mp h
    rfl
  | txsched msg =>
    obtain ⟨m, -, h⟩ := msgOperand_bind_ok h
    obtain ⟨_, _, _, _, _, -, rfl⟩ := txschedEffect_frame h
    rfl
  | build msg =>
    obtain ⟨m, -, h⟩ := msgOperand_bind_ok h
    obtain ⟨_, rfl, -⟩ := buildEffect_frame h
    rfl
  | validate msg =>
    obtain ⟨m, -, h⟩ := msgOperand_bind_ok h
    obtain ⟨-, rfl⟩ := (validateEffect_ok_iff _ _ _).mp h
    rfl
  | tofss =>
    obtain ⟨_, _, _, _, _, rfl⟩ := tofssEffect_frame h
    rfl
  | tofds =>
    obtain ⟨_, _, _, _, _, rfl⟩ := tofdsEffect_frame h
    rfl
  | durms a b =>
    obtain ⟨r, -, h⟩ := tsOperand_bind_ok h
    obtain ⟨q, -, h⟩ := tsOperand_bind_ok h
    obtain ⟨-, rfl⟩ := (durmsEffect_ok_iff _ _ _ _).mp h
    rfl
  | applykey =>
    obtain ⟨_, _, hFrame⟩ := applyKey_frame s
    rw [← Except.ok.inj h, hFrame]
  | armcyc =>
    obtain ⟨_, hFrame, -⟩ := armCycle_frame s
    rw [← Except.ok.inj h, hFrame]
  | seqinc => exact absurd rfl hOther
  | errinc kind mask =>
    obtain ⟨k, -, h⟩ := kindOperand_bind_ok h
    cases h
    rfl
  | deliver =>
    obtain ⟨-, rfl⟩ := (deliverEffect_ok_iff _ _).mp h
    rfl
  | run =>
    obtain ⟨_, _, _, _, -, -, -, -, rfl⟩ := cycleStart_ok h
    rfl
  | pdoacvt | postkey | tsclr =>
    cases h
    rfl

/-- A command changes SEQ only as SEQINC in Idle, which adds 1. -/
theorem exec_seq {i : Instr} {s t : State} (hExec : exec i s = .next t) :
    t.seq = s.seq ∨ (i = .seqinc ∧ s.phase = .idle ∧ t.seq = s.seq + 1) := by
  obtain ⟨-, h⟩ | ⟨-, c, h⟩ | ⟨hPhase, u, hEffect, h⟩ := exec_cases i s <;> cases h.symm.trans hExec
  · exact .inl rfl
  · exact .inl rfl
  · by_cases hSeqinc : i = .seqinc
    · subst hSeqinc
      have hIdle : s.phase = .idle := hPhase.resolve_right nofun
      cases hEffect
      exact .inr ⟨rfl, hIdle, rfl⟩
    · exact .inl (commandEffect_seq hSeqinc hEffect :)

theorem writeReg_seq (s : State) (v : Word) (r : Reg) : (writeReg s v r).seq = s.seq := by
  obtain ⟨_, _, _, _, _, _, h, -⟩ := writeReg_frame s v r
  rw [h]

/-! What the sequencer's operations leave of SEQ (R205, R215, R217). -/

theorem seqOutcome_seq {s : State} {x : Except CmdFault State} (h : ∀ t, x = .ok t → t.seq = s.seq) :
    (seqOutcome s x).seq = s.seq := by
  cases x with
  | ok t => exact h t rfl
  | error c => rfl

/-- The next status word reports a finished transmission. -/
def TxDoneNext (s : State) : Prop := ∃ st rest, s.env.answers.status = st :: rest ∧ st.getLsbD 0 = true

theorem and_txDoneMask_ne_zero_iff (st : Word) : st &&& txDoneMask ≠ 0 ↔ st.getLsbD 0 = true := by
  refine ⟨fun h => ?_, and_txDoneMask_of_done⟩
  by_contra hClear
  have hZero : st &&& txDoneMask = (BitVec.ofBool (st.getLsbD 0)).setWidth 32 :=
    BitVec.and_one_eq_setWidth_ofBool_getLsbD
  exact h (by rw [hZero, Bool.eq_false_of_not_eq_true hClear]; rfl)

/-- A send wait step leaves SEQ alone, or the transmission has finished and SEQ advances by 1. -/
theorem txWait_seq {next : State → State} (hNext : ∀ u, (next u).seq = u.seq) (s : State) :
    (txWait s next).seq = s.seq ∨ (TxDoneNext s ∧ (txWait s next).seq = s.seq + 1) := by
  obtain h | ⟨st, rest, hStatus, h | ⟨hMask, h⟩⟩ := txWait_cases s next <;> rw [h]
  · exact .inl rfl
  · exact .inl rfl
  · exact .inr ⟨⟨st, rest, hStatus, (and_txDoneMask_ne_zero_iff st).mp hMask⟩, hNext _⟩

theorem rxWait_seq {go : State → Except CmdFault State} (hGo : ∀ u t, go u = .ok t → t.seq = u.seq) (m : Msg)
    (s : State) : (rxWait m go s).seq = s.seq := by
  obtain ⟨e, -, h | h | ⟨k, mask, h⟩ | ⟨mem, len, -, -, h | ⟨t, hOk, h⟩⟩⟩ := rxWait_frame m go s <;> rw [h]
  · rfl
  · rfl
  · exact (hGo _ _ hOk :)

theorem gotResponse_seq {s t : State} (h : gotResponse s = .ok t) : t.seq = s.seq := by
  obtain ⟨_, _, _, _, rfl, -⟩ := gotResponse_ok h
  rfl

/-- A Response refused as late does not advance SEQ. -/
theorem gotPoll_seq {s t : State} (h : gotPoll s = .ok t) : t.seq = s.seq := by
  obtain ⟨_, _, _, _, -, -, -, -, -, rfl | rfl⟩ := gotPoll_ok h <;> rfl

theorem gotFinal_seq {s t : State} (h : gotFinal s = .ok t) : t.seq = s.seq := by
  obtain ⟨_, _, _, rfl, -⟩ := gotFinal_ok h
  rfl

theorem responseSent_seq (s : State) : (responseSent s).seq = s.seq := by
  unfold responseSent
  split <;> rfl

/-- A Final refused as late does not advance SEQ. -/
theorem sendFinal_seq {s t : State} (h : sendFinal s = .ok t) : t.seq = s.seq := by
  obtain ⟨_, _, _, _, -, -, -, -, rfl | rfl⟩ := sendFinal_ok h <;> rfl

theorem computeInitiator_seq {s t : State} (h : computeInitiator s = .ok t) : t.seq = s.seq := by
  obtain ⟨u, _, _, _, _, _, _, _, _, _, rfl, ⟨-, rfl⟩ | ⟨-, hFinal⟩⟩ := computeInitiator_ok h
  · rfl
  · exact (sendFinal_seq hFinal :)

theorem computeResponder_seq {s t : State} (h : computeResponder s = .ok t) : t.seq = s.seq := by
  obtain ⟨_, _, _, _, _, _, _, _, _, rfl⟩ := computeResponder_ok h
  rfl

theorem initStep_seq (s : State) : (initStep s).seq = s.seq := by
  obtain ⟨e, -, h | ⟨c, -, h⟩⟩ := initStep_cases s <;> rw [h]

/-- The phases in which the sequencer waits for a transmission to finish. -/
def Phase.Sending (p : Phase) : Prop := p = .sendPoll ∨ p = .sendResponse ∨ p = .sendFinal

/-- A turn of the sequencer changes SEQ only where a transmission has finished, and then adds 1. -/
theorem seqStep_seq (s : State) :
    (seqStep s).seq = s.seq ∨ (s.phase.Sending ∧ TxDoneNext s ∧ (seqStep s).seq = s.seq + 1) := by
  unfold seqStep
  cases hPhase : s.phase with
  | init => exact .inl (initStep_seq s)
  | idle =>
    cases s.auto with
    | false => exact .inl rfl
    | true => exact .inl (seqOutcome_seq fun _ => commandEffect_seq (i := .run) nofun)
  | sendPoll =>
    exact (txWait_seq (next := fun u => { u with phase := .awaitResponse }) (fun _ => rfl) s).imp_right
      fun h => ⟨.inl rfl, h⟩
  | awaitResponse => exact .inl (rxWait_seq (fun _ _ => gotResponse_seq) _ s)
  | sendFinal => exact (txWait_seq endCycle_seq s).imp_right fun h => ⟨.inr (.inr rfl), h⟩
  | awaitPoll => exact .inl (rxWait_seq (fun _ _ => gotPoll_seq) _ s)
  | sendResponse => exact (txWait_seq responseSent_seq s).imp_right fun h => ⟨.inr (.inl rfl), h⟩
  | awaitFinal => exact .inl (rxWait_seq (fun _ _ => gotFinal_seq) _ s)
  | compute =>
    cases s.cfg.role with
    | initiator => exact .inl (seqOutcome_seq fun _ => computeInitiator_seq)
    | responder => exact .inl (seqOutcome_seq fun _ => computeResponder_seq)
  | fatal => exact .inl rfl

/-- What a step can do to SEQ: nothing, reset, SEQINC, or the advance after a finished transmission. -/
theorem step_seq {s t : State} (hStep : step s = .next t) :
    t.seq = s.seq ∨ resetNext s = true ∨ (s.phase = .idle ∧ commandNext s .seqinc ∧ t.seq = s.seq + 1) ∨
      (s.phase.Sending ∧ TxDoneNext s ∧ t.seq = s.seq + 1) := by
  obtain ⟨-, rfl⟩ | ⟨x, rest, hInputs, h⟩ := step_cases hStep
  · exact (seqStep_seq s).imp_right fun h => .inr (.inr h)
  obtain ⟨-, rfl⟩ | ⟨rfl, -⟩ | ⟨a, -, rfl⟩ | ⟨w, i, rfl, hDecode, hExec⟩ | ⟨w, e, -, -, rfl⟩ |
    ⟨a, v, -, -, -, ⟨r, -, -, rfl⟩ | ⟨-, rfl⟩⟩ := h
  · exact (seqStep_seq (withInputs s rest)).imp_right fun h => .inr (.inr h)
  · exact .inr (.inl (by simp [resetNext, hInputs]))
  · exact .inl rfl
  · obtain hSame | ⟨rfl, hIdle, hSeq⟩ := exec_seq hExec
    · exact .inl hSame
    · exact .inr (.inr (.inl ⟨hIdle, ⟨w, rest, hInputs, hDecode⟩, hSeq⟩))
  · split <;> exact .inl rfl
  · exact .inl (writeReg_seq _ v r)
  · exact .inl rfl

/-- Settles O29: SEQINC by its effect in Idle and by BUSY elsewhere, every other step by what it can do to SEQ. -/
theorem seqincAdvances : Obligations.SeqincAdvances := by
  refine ⟨by rfl, fun s hIdle => ?_, fun s => exec_seqinc_busy, fun s t hStep hChanged => ?_⟩
  · rw [exec_seqinc_idle hIdle, seq_add_one_eq_ofNat]
  · obtain hSame | hReset | ⟨hIdle, hCommand, hSeq⟩ | ⟨hSending, hDone, hSeq⟩ := step_seq hStep
    · exact absurd hSame hChanged
    · exact .inl hReset
    · exact .inr ⟨hSeq, .inl ⟨hIdle, hCommand⟩⟩
    · exact .inr ⟨hSeq, .inr ⟨hSending, hDone⟩⟩

/-! The timestamp registers at the host port (R21, R26, R27). -/

theorem regAt_tsv : regAt 0x014 = some .tsv := by decide

theorem regAt_tsLo (r : TsReg) : regAt (0x040 + 8 * r.index) = some (.tsLo r) := by cases r <;> decide

theorem regAt_tsHi (r : TsReg) : regAt (0x044 + 8 * r.index) = some (.tsHi r) := by cases r <;> decide

theorem hostTs_of_invalid {s : State} {r : TsReg} (h : tsValid s r = false) : hostTs s r = 0 := by simp [hostTs, h]

theorem regRead_tsLo_of_invalid {s : State} {r : TsReg} (h : tsValid s r = false) :
    regRead s (0x040 + 8 * r.index) = 0 := by
  simp [regRead, regAt_tsLo, readReg, hostTs_of_invalid h, trunc32]

theorem regRead_tsHi_of_invalid {s : State} {r : TsReg} (h : tsValid s r = false) :
    regRead s (0x044 + 8 * r.index) = 0 := by
  simp [regRead, regAt_tsHi, readReg, hostTs_of_invalid h, hi32]

/-- TSV reads 0 when no timestamp register is valid. -/
theorem regRead_tsv_of_invalid {s : State} (h : ∀ r, tsValid s r = false) : regRead s 0x014 = 0 := by
  have hWord : tsvWord s.ts = 0 := by
    rw [tsvWord, show s.ts.pollTx.valid = false from h .pollTx, show s.ts.pollRx.valid = false from h .pollRx,
      show s.ts.respTx.valid = false from h .respTx, show s.ts.respRx.valid = false from h .respRx,
      show s.ts.finalTx.valid = false from h .finalTx, show s.ts.finalRx.valid = false from h .finalRx]
    rfl
  simp [regRead, regAt_tsv, readReg, hWord]

/-! TSCLR (R232). -/

theorem exec_tsclr_idle {s : State} (hIdle : s.phase = .idle) :
    exec .tsclr s = .next { clearTs s with cmdFault := .noFault } :=
  exec_of_effect (i := .tsclr) hIdle rfl

/-- Settles O31: no timestamp register is valid after TSCLR, and that is all the host port shows of them. -/
theorem tsclrDiscards : Obligations.TsclrDiscards := by
  refine ⟨by rfl, fun s hIdle => ⟨_, exec_tsclr_idle hIdle, rfl, ?_⟩⟩
  have hInvalid (r : TsReg) : tsValid { clearTs s with cmdFault := .noFault } r = false := clearTs_tsValid s r
  exact ⟨regRead_tsv_of_invalid hInvalid, fun r =>
    ⟨hInvalid r, regRead_tsLo_of_invalid (hInvalid r), regRead_tsHi_of_invalid (hInvalid r)⟩⟩

end Sys2Proof.Machine

/-! SUPPORT. Fatal (spec/60_exceptions.md R297): in that phase a command, a turn of the sequencer and a host write each
give back the state they were given; a host read and reset work as in every other phase. -/

namespace Sys2Proof.Machine

/-! What is dropped in Fatal (R50, R97, R297). -/

theorem anytimeCommand_fatal {s : State} (e : State → Except CmdFault State) (h : s.phase = .fatal) :
    anytimeCommand s e = s := if_pos h

theorem exec_fatal (i : Instr) {s : State} (h : s.phase = .fatal) : exec i s = .next s := by
  rw [exec_eq, anytimeCommand_fatal _ h, idleCommand_fatal _ h, ite_self]

theorem seqStep_fatal {s : State} (h : s.phase = .fatal) : seqStep s = s := by
  rw [seqStep, h]

theorem runWord_fatal (w : Word) {s : State} (h : s.phase = .fatal) : runWord w s = .next s := by
  unfold runWord
  cases decode w with
  | ok i => exact exec_fatal i h
  | error _ => exact congrArg Host.Outcome.next (anytimeCommand_fatal _ h)

/-- The write gates of R50 leave nothing of a write in Fatal: what `inIdle` guards is kept because Fatal is not Idle,
what `notInFatal` guards because it is Fatal. -/
theorem writeReg_fatal {s : State} (v : Word) (r : Reg) (h : s.phase = .fatal) : writeReg s v r = s := by
  obtain ⟨_, _, _, _, _, _, hWrite, hGated, hDropped, -⟩ := writeReg_frame s v r
  obtain ⟨rfl, rfl, rfl, rfl⟩ := hGated (by simp [h])
  obtain ⟨rfl, rfl⟩ := hDropped h
  exact hWrite

/-! The transactions of the port, taken as the next input (R20, R70). -/

theorem onPort_of_address {a : Nat} (t : Host.Outcome State Fault Refusal) (hAligned : a % 4 = 0)
    (hRange : a ≤ 0x1B7) : onPort a t = t := by
  rw [onPort, if_neg (not_not_intro hAligned), if_neg (Nat.not_lt.mpr hRange)]

/-- Whatever the register at the address, CMD among them, or none, nothing is written in Fatal. -/
theorem hostWrite_fatal {s : State} {a : Nat} (v : Word) (h : s.phase = .fatal) (hAligned : a % 4 = 0)
    (hRange : a ≤ 0x1B7) : hostWrite a v s = .next s := by
  rw [hostWrite, onPort_of_address _ hAligned hRange]
  split
  · exact runWord_fatal v h
  · exact congrArg Host.Outcome.next (writeReg_fatal v _ h)
  · rfl

theorem step_of_input {s : State} {i : Input} {rest : List Input} (hInputs : s.env.inputs = i :: rest) :
    step s = takeInput i (withInputs s rest) := by
  rw [step, hInputs]

/-- A host read answers in every phase. -/
theorem step_hostRead {s : State} {a : Nat} {rest : List Input} (hInputs : s.env.inputs = .hostRead a :: rest)
    (hAligned : a % 4 = 0) (hRange : a ≤ 0x1B7) :
    step s = .next { s with env :=
      { s.env with inputs := rest, readBack := s.env.readBack ++ [regRead (withInputs s rest) a] } } := by
  rw [step_of_input hInputs, takeInput, hostRead, onPort_of_address _ hAligned hRange]
  rfl

/-- Settles O5, by the drop lemmas above at the state with its input taken off the list. -/
theorem fatalIsAbsorbing : Obligations.FatalIsAbsorbing := by
  intro s hFatal
  refine ⟨fun i => exec_fatal i hFatal, seqStep_fatal hFatal, fun a v rest hInputs hAligned hRange => ?_,
    fun a rest hInputs hAligned hRange => step_hostRead hInputs hAligned hRange, fun rest hInputs => ?_⟩
  · have hStillFatal : (withInputs s rest).phase = .fatal := hFatal
    rw [step_of_input hInputs, takeInput, hostWrite_fatal v hStillFatal hAligned hRange]
  · exact ⟨resetEvent (withInputs s rest), step_of_input hInputs, rfl⟩

end Sys2Proof.Machine

/-! SUPPORT. Init (spec/70_reset_and_hazards.md R321): the init step by the radio's answer to `configure`, and what a
command finds outside Idle (R97): BUSY, but for POSTKEY, which completes. -/

namespace Sys2Proof.Machine

/-! The init step (R251, R321). -/

/-- The environment after a `configure` whose answer is taken and leaves `rest`, the call added to the trace (R251, R272). -/
def configured (s : State) (rest : List ConfigureAnswer) : Env :=
  { s.env with
    answers := { s.env.answers with configure := rest }
    calls := s.env.calls ++ [.configure s.cfg.channelParams] }

/-- FATAL_CODE after the init step: the cause of a failed `configure`, else the code as it was (R296, R321). -/
def fatalCodeAfter (code : Byte) : ConfigureAnswer → Byte
  | .ok => code
  | .notResponding => 1
  | .rejected => 2

theorem radioConfigure_of_answer {s : State} {a : ConfigureAnswer} {rest : List ConfigureAnswer}
    (hAnswer : s.env.answers.configure = a :: rest) :
    radioConfigure s = (a, { s with env := configured s rest }) := by
  simp [radioConfigure, hAnswer, nextAnswer, call, withAnswers, configured]

theorem seqStep_init {s : State} (hInit : s.phase = .init) : seqStep s = initStep s := by
  rw [seqStep, hInit]

theorem initStep_of_answer {s : State} {a : ConfigureAnswer} {rest : List ConfigureAnswer}
    (hAnswer : s.env.answers.configure = a :: rest) :
    initStep s = { s with
      phase := (if a = .ok then .idle else .fatal)
      fatalCode := fatalCodeAfter s.fatalCode a
      env := configured s rest } := by
  rw [initStep, radioConfigure_of_answer hAnswer]
  cases a with
  | ok => rfl
  | notResponding => rfl
  | rejected => rfl

/-! Commands outside Idle (R23, R97, R181). -/

theorem exec_busy {i : Instr} {s : State} (hNotPostkey : i ≠ .postkey) (hNotIdle : s.phase ≠ .idle)
    (hNotFatal : s.phase ≠ .fatal) : exec i s = .next { s with cmdFault := .busy } := by
  rw [exec_eq, if_neg hNotPostkey, idleCommand_busy _ hNotFatal hNotIdle]
  rfl

theorem exec_postkey {s : State} (hNotFatal : s.phase ≠ .fatal) :
    exec .postkey s = .next { s with pend := mailboxOf s.mem, cmdFault := .noFault } :=
  congrArg Host.Outcome.next (if_neg hNotFatal)

theorem regRead_status_busy {s : State} (hNotIdle : s.phase ≠ .idle) (hNotFatal : s.phase ≠ .fatal) :
    (regRead s 0x004).getLsbD 4 = true := by
  rw [regRead_status, show (statusWord s).getLsbD 4 = s.phase.busy from statusWord_getLsbD s 4]
  exact (Phase.busy_iff _).mpr ⟨hNotIdle, hNotFatal⟩

/-- Settles O36: the init step at the radio's answer, and the command rules in a phase that is neither Idle nor Fatal. -/
theorem initStepFollowsRadioAnswer : Obligations.InitStepFollowsRadioAnswer := by
  refine ⟨fun s a rest hInit hAnswer => ?_, fun s hInit => ?_⟩
  · rw [seqStep_init hInit, initStep_of_answer hAnswer]
    cases a with
    | ok => rfl
    | notResponding => rfl
    | rejected => rfl
  · have hNotIdle : s.phase ≠ .idle := by simp [hInit]
    have hNotFatal : s.phase ≠ .fatal := by simp [hInit]
    exact ⟨regRead_status_busy hNotIdle hNotFatal, fun i hNotPostkey => exec_busy hNotPostkey hNotIdle hNotFatal,
      _, exec_postkey hNotFatal, rfl, rfl⟩

end Sys2Proof.Machine

/-! SUPPORT. The command word both ways (spec/30_encoding.md R90 to R99): a word is made of its four byte fields, what a
format accepts, and what a step does with the word the host writes to CMD. -/

namespace Sys2Proof.Machine

open Sys2Proof

/-! The formats of the decoder and the words they accept (R91 to R95). -/

/-- A word with `Z = 0` is put together from its other three fields (R99). -/
theorem eq_mkWord_of_fieldZ {w : Word} (hZ : fieldZ w = 0) : w = mkWord (fieldOp w) (fieldA w) (fieldB w) := by
  rw [word_eq_iff_fields, fieldZ_mkWord, fieldB_mkWord, fieldA_mkWord, fieldOp_mkWord]
  exact ⟨hZ, rfl, rfl, rfl⟩

/-- The operation code a table entry gives as a number. -/
theorem fieldOp_eq_ofNat {w : Word} {n : Nat} (hOp : (fieldOp w).toNat = n) : fieldOp w = BitVec.ofNat 8 n := by
  rw [← hOp, BitVec.ofNat_toNat, BitVec.setWidth_eq]

section
variable {w : Word} {n : Nat} (hOp : (fieldOp w).toNat = n) {i : Instr}
include hOp

theorem format2_ok {mk : Byte → Byte → Instr} (h : format2 w mk = .ok i) :
    i = mk (fieldA w) (fieldB w) ∧ w = mkWord (BitVec.ofNat 8 n) (fieldA w) (fieldB w) := by
  unfold format2 at h
  split_ifs at h with hZ
  exact ⟨(Except.ok.inj h).symm, fieldOp_eq_ofNat hOp ▸ eq_mkWord_of_fieldZ (not_not.mp hZ)⟩

theorem format1_ok {mk : Byte → Instr} (h : format1 w mk = .ok i) :
    i = mk (fieldA w) ∧ w = mkWord (BitVec.ofNat 8 n) (fieldA w) 0 := by
  unfold format1 at h
  split_ifs at h with hZ hB
  refine ⟨(Except.ok.inj h).symm, ?_⟩
  rw [← not_not.mp hB, ← fieldOp_eq_ofNat hOp]
  exact eq_mkWord_of_fieldZ (not_not.mp hZ)

theorem format0_ok {j : Instr} (h : format0 w j = .ok i) : i = j ∧ w = mkWord (BitVec.ofNat 8 n) 0 0 := by
  unfold format0 at h
  split_ifs at h with hZ hB hA
  refine ⟨(Except.ok.inj h).symm, ?_⟩
  have hWord := eq_mkWord_of_fieldZ (not_not.mp hZ)
  rwa [not_not.mp hB, not_not.mp hA, fieldOp_eq_ofNat hOp] at hWord

end

/-- No bit of a legal word is ignored. -/
theorem eq_encode_of_decode {w : Word} {i : Instr} (h : decode w = .ok i) : w = encode i := by
  unfold decode at h
  split at h
  case h_1 | h_2 | h_9 | h_14 =>
    next hOp =>
      obtain ⟨rfl, hWord⟩ := format2_ok hOp h
      exact hWord
  case h_3 | h_4 | h_5 =>
    next hOp =>
      obtain ⟨rfl, hWord⟩ := format1_ok hOp h
      exact hWord
  case h_18 => cases h
  all_goals
    next hOp =>
      obtain ⟨rfl, hWord⟩ := format0_ok hOp h
      exact hWord

/-- The decoder reads back what `mkWord` wrote: the operands of the format, whatever their values. -/
theorem decode_encode (i : Instr) : decode (encode i) = .ok i := by
  cases i with
  | enc32 a b | dec32 a b | durms a b | errinc a b =>
    simp [decode, encode, fieldOp_mkWord, format2, fieldZ_mkWord, fieldA_mkWord, fieldB_mkWord]
  | txsched a | build a | validate a =>
    simp [decode, encode, fieldOp_mkWord, format1, fieldZ_mkWord, fieldA_mkWord, fieldB_mkWord]
  | _ => rfl

/-- Settles O1: encoding and decoding are inverse, command by command and format by format. -/
theorem decodeEncodeAgree : Obligations.DecodeEncodeAgree :=
  fun i => ⟨decode_encode i, fun _ => eq_encode_of_decode⟩

/-- Settles O3, by running the decoder on each word. -/
theorem sampleWordsDecode : Obligations.SampleWordsDecode := by
  refine ⟨by rfl, by rfl, by rfl, by rfl, by rfl, by rfl, by rfl⟩

/-! The word the host writes to CMD (R22, R97). -/

theorem regAt_cmd : regAt 0x000 = some .cmd := by decide

theorem step_hostWrite_cmd {s : State} {w : Word} {rest : List Input} (hInputs : s.env.inputs = .hostWrite 0x000 w :: rest) :
    step s = runWord w (withInputs s rest) := by
  rw [step_of_input hInputs, takeInput, hostWrite, onPort_of_address _ (by decide) (by decide), regAt_cmd]

theorem runWord_of_decode {w : Word} {i : Instr} (hDecode : decode w = .ok i) (s : State) : runWord w s = exec i s := by
  simp [runWord, hDecode]

theorem runWord_of_illegal {w : Word} {e : DecodeError} (hDecode : decode w = .error e) {s : State}
    (hNotFatal : s.phase ≠ .fatal) : runWord w s = .next { s with cmdFault := .illegalOp } := by
  rw [runWord, hDecode]
  exact congrArg Host.Outcome.next (if_neg hNotFatal)

/-- A 32-bit table word is the command word of the same number (R90). -/
theorem decode_of_decodeTableWord {w : Nat} {i : Instr} (h : decodeTableWord 32 w = some i) :
    decode (BitVec.ofNat 32 (w % 2 ^ 32)) = .ok i := by
  unfold decodeTableWord at h
  rw [if_pos (Nat.mod_lt _ (by decide))] at h
  cases hDecode : decode (BitVec.ofNat 32 (w % 2 ^ 32)) with
  | ok j =>
    rw [hDecode] at h
    exact congrArg Except.ok (Option.some.inj h)
  | error e =>
    rw [hDecode] at h
    cases h

/-- Settles O4: CMD is the register at address 0, and what a word written there does is what the decoder says of it. -/
theorem stepRunsDecodedCommand : Obligations.StepRunsDecodedCommand := by
  refine ⟨fun s w rest i hInputs hDecode => ?_, fun s w rest e hInputs hDecode hNotFatal => ?_,
    fun s rest hInputs => step_of_input hInputs, fun s hInputs => ?_, fun s w i hTable => ?_⟩
  · rw [step_hostWrite_cmd hInputs, runWord_of_decode hDecode]
  · rw [step_hostWrite_cmd hInputs, runWord_of_illegal hDecode (s := withInputs s rest) hNotFatal]
  · rw [step, hInputs]
  · have hInputs : (s.withFetchWord 32 w).env.inputs =
        .hostWrite 0x000 (BitVec.ofNat 32 (w % 2 ^ 32)) :: s.env.inputs := rfl
    rw [step_hostWrite_cmd hInputs, runWord_of_decode (decode_of_decodeTableWord hTable)]
    rfl

end Sys2Proof.Machine

/-! SUPPORT. A turn of the sequencer, said once (spec/44_sequencer.md R200 to R224): every state it can leave, with what
it has made sure of on the way. The invariant and the frame statements are read off this list. -/

namespace Sys2Proof.Machine

/-- The phases in which the sequencer waits for a frame. -/
def Phase.Receiving (p : Phase) : Prop := p = .awaitPoll ∨ p = .awaitResponse ∨ p = .awaitFinal

/-- The byte store `n` is in form and inside the buffers when `m` is. -/
def storeKept (m n : Memory) : Prop :=
  (m.wf = true → n.wf = true) ∧ (m.wf = true → m.inBuffers = true → n.inBuffers = true)

theorem storeKept.refl (m : Memory) : storeKept m m := ⟨id, fun _ => id⟩

theorem storeKept.trans {m n o : Memory} (h : storeKept m n) (k : storeKept n o) : storeKept m o :=
  ⟨fun w => k.1 (h.1 w), fun w b => k.2 (h.1 w) (h.2 w b)⟩

/-- What a compute step writes beside the sink (R212, R222): results, side outputs, the counter of the free values. -/
structure Results where
  tofDtu : DWord
  tofS : DWord
  distM : DWord
  wrapFlag : Bool
  durMs : DWord
  durValid : Bool
  pdoaDeg : Word
  pdoaValid : Bool
  free : Nat

/-- The state in which a compute step has its results, with what the sink has received by then. -/
def computed (s : State) (x : Results) (sink : List Byte) : State :=
  { s with
    tofDtu := x.tofDtu, tofS := x.tofS, distM := x.distM, resultValid := true, wrapFlag := x.wrapFlag
    durMs := x.durMs, durValid := x.durValid, pdoaDeg := x.pdoaDeg, pdoaValid := x.pdoaValid
    env := { s.env with free := x.free, sink := sink } }

/-- What one turn of the sequencer can leave (R200, R224). -/
inductive Turn (s : State) : State → Prop
  /-- The phase waits with nothing to look at, has no step, or its step would raise a command fault. -/
  | stays : Turn s s
  /-- A status word was passed over. -/
  | looks (e : Env) (hEnv : envKept s.env e) : Turn s { s with env := e }
  | initialised (e : Env) (hPhase : s.phase = .init) (hEnv : envKept s.env e) :
      Turn s { s with phase := .idle, env := e }
  | initFailed (e : Env) (code : Byte) (hPhase : s.phase = .init) (hCode : code = 1 ∨ code = 2)
      (hEnv : envKept s.env e) : Turn s { s with phase := .fatal, fatalCode := code, env := e }
  | started (t : State) (hPhase : s.phase = .idle) (hStart : cycleStart s = .ok t) : Turn s t
  | pollSent (e : Env) (hPhase : s.phase = .sendPoll) (hEnv : envKept s.env e) :
      Turn s { s with phase := .awaitResponse, seq := s.seq + 1, env := e }
  | responseSent (e : Env) (hPhase : s.phase = .sendResponse) (hVariant : s.cfg.variant ≠ .singleSided)
      (hEnv : envKept s.env e) : Turn s { s with phase := .awaitFinal, seq := s.seq + 1, env := e }
  | lastSent (e : Env)
      (hPhase : s.phase = .sendFinal ∨ (s.phase = .sendResponse ∧ s.cfg.variant = .singleSided))
      (hEnv : envKept s.env e) : Turn s (endCycle { s with seq := s.seq + 1, env := e })
  | rejected (k : ErrKind) (mask : Byte) (m : Memory) (l : BitVec 10) (v : Bool) (e : Env)
      (hPhase : s.phase.Receiving) (hStore : storeKept s.mem m) (hEnv : envKept s.env e) :
      Turn s (raiseErr { s with mem := m, rxLen := l, vok := v, env := e } k mask)
  | gotResponse (m : Memory) (l : BitVec 10) (f : TsFile) (k : Word) (p : Half) (e : Env)
      (hPhase : s.phase = .awaitResponse) (hStore : storeKept s.mem m)
      (hTs : ∀ r ∈ initiatorTs, (f.get r).valid = true) (hEnv : envKept s.env e) :
      Turn s { s with
        phase := .compute, vok := true, mem := m, rxLen := l, ts := f, kRaw := k, pdoaRaw := p, env := e }
  | gotPoll (m : Memory) (l : BitVec 10) (f : TsFile) (d : Word) (e : Env)
      (hPhase : s.phase = .awaitPoll) (hStore : storeKept s.mem m)
      (hTs : ∀ r ∈ responderTs, (f.get r).valid = true) (hEnv : envKept s.env e) :
      Turn s { s with
        phase := .sendResponse, vok := true, mem := m, rxLen := l, ts := f, dlyTime := d, txLen := 20, env := e }
  | responseLate (m : Memory) (l : BitVec 10) (f : TsFile) (d : Word) (e : Env)
      (hPhase : s.phase = .awaitPoll) (hStore : storeKept s.mem m) (hEnv : envKept s.env e) :
      Turn s (raiseErr { s with
        vok := true, mem := m, rxLen := l, ts := f, dlyTime := d, txLen := 20, env := e } .delayedTxTooLate 0)
  | gotFinal (m : Memory) (l : BitVec 10) (f : TsFile) (p : Half) (e : Env)
      (hPhase : s.phase = .awaitFinal) (hStore : storeKept s.mem m)
      (hTs : ∀ r, (s.ts.get r).valid = true → (f.get r).valid = true)
      (hTsNew : ∀ r ∈ [TsReg.pollTx, .respRx, .finalTx, .finalRx], (f.get r).valid = true)
      (hEnv : envKept s.env e) :
      Turn s { s with phase := .compute, vok := true, mem := m, rxLen := l, ts := f, pdoaRaw := p, env := e }
  | reported (x : Results) (hPhase : s.phase = .compute) : Turn s (endCycle (computed s x s.env.sink))
  | delivered (x : Results) (hPhase : s.phase = .compute) :
      Turn s (endCycle (computed s x (s.env.sink ++ resultMessage x.distM)))
  | finalArmed (x : Results) (m : Memory) (f : TsFile) (d : Word) (e : Env) (hPhase : s.phase = .compute)
      (hRole : s.cfg.role = .initiator) (hVariant : s.cfg.variant ≠ .singleSided) (hStore : storeKept s.mem m)
      (hEnv : envKept (computed s x (s.env.sink ++ resultMessage x.distM)).env e) :
      Turn s { computed s x (s.env.sink ++ resultMessage x.distM) with
        phase := .sendFinal, ts := f, dlyTime := d, mem := m, txLen := 24, env := e }
  | finalLate (x : Results) (m : Memory) (f : TsFile) (d : Word) (e : Env) (hPhase : s.phase = .compute)
      (hStore : storeKept s.mem m)
      (hEnv : envKept (computed s x (s.env.sink ++ resultMessage x.distM)).env e) :
      Turn s (raiseErr { computed s x (s.env.sink ++ resultMessage x.distM) with
        ts := f, dlyTime := d, mem := m, txLen := 24, env := e } .delayedTxTooLate 0)

/-! Each operation of the sequencer is a turn. -/

/-- A step that ends in a command fault leaves the state it began in (assumption log 10). -/
theorem Turn.of_seqOutcome {s : State} {x : Except CmdFault State} (h : ∀ t, x = .ok t → Turn s t) :
    Turn s (seqOutcome s x) := by
  cases x with
  | ok t => exact h t rfl
  | error c => exact .stays

theorem Turn.of_txWait {s : State} {next : State → State}
    (h : ∀ e, envKept s.env e → Turn s (next { s with seq := s.seq + 1, env := e })) : Turn s (txWait s next) := by
  obtain ⟨e, hEnv, hWait | hWait | hWait⟩ := txWait_frame next s <;> rw [hWait]
  · exact .stays
  · exact .looks e hEnv
  · exact h e hEnv

theorem Turn.of_rxWait {s : State} {go : State → Except CmdFault State} (hPhase : s.phase.Receiving) (msg : Msg)
    (h : ∀ m l e t, storeKept s.mem m → envKept s.env e →
      go { s with mem := m, rxLen := l, vok := true, env := e } = .ok t → Turn s t) :
    Turn s (rxWait msg go s) := by
  obtain ⟨e, hEnv, hWait | hWait | ⟨k, mask, hWait⟩ | ⟨m, l, hWf, hIn, hWait | ⟨t, hGo, hWait⟩⟩⟩ :=
    rxWait_frame msg go s <;> rw [hWait]
  · exact .stays
  · exact .looks e hEnv
  · exact .rejected k mask s.mem s.rxLen s.vok e hPhase (.refl _) hEnv
  · exact .rejected _ _ m l false e hPhase ⟨hWf, fun _ => hIn⟩ hEnv
  · exact h m l e t ⟨hWf, fun _ => hIn⟩ hEnv hGo

section
variable {s t : State} {m : Memory} {l : BitVec 10} {e : Env} (hStore : storeKept s.mem m) (hEnv : envKept s.env e)
include hStore hEnv

theorem Turn.of_gotResponse (hPhase : s.phase = .awaitResponse)
    (h : Machine.gotResponse { s with mem := m, rxLen := l, vok := true, env := e } = .ok t) : Turn s t := by
  obtain ⟨f, k, p, e', rfl, hEnv', hTs⟩ := gotResponse_ok h
  exact .gotResponse m l f k p e' hPhase hStore hTs (hEnv.trans hEnv')

theorem Turn.of_gotFinal (hPhase : s.phase = .awaitFinal)
    (h : Machine.gotFinal { s with mem := m, rxLen := l, vok := true, env := e } = .ok t) : Turn s t := by
  obtain ⟨f, p, e', rfl, hEnv', hTs, hTsNew⟩ := gotFinal_ok h
  exact .gotFinal m l f p e' hPhase hStore hTs hTsNew (hEnv.trans hEnv')

theorem Turn.of_gotPoll (hPhase : s.phase = .awaitPoll)
    (h : Machine.gotPoll { s with mem := m, rxLen := l, vok := true, env := e } = .ok t) : Turn s t := by
  obtain ⟨f, d, m', e', hEnv', hPollRx, hRespTx, hWf, hIn, rfl | rfl⟩ := gotPoll_ok h
  · refine .gotPoll m' l f d e' hPhase (hStore.trans ⟨hWf, hIn⟩) (fun r hr => ?_) (hEnv.trans hEnv')
    simp only [responderTs, List.mem_cons, List.not_mem_nil, or_false] at hr
    rcases hr with rfl | rfl
    · exact hPollRx
    · exact hRespTx
  · exact .responseLate m' l f d e' hPhase (hStore.trans ⟨hWf, hIn⟩) (hEnv.trans hEnv')

end

theorem Turn.of_computeInitiator {s t : State} (hPhase : s.phase = .compute) (hRole : s.cfg.role = .initiator)
    (h : computeInitiator s = .ok t) : Turn s t := by
  obtain ⟨u, a, b, c, w, n, d, dv, p, pv, rfl, ⟨-, rfl⟩ | ⟨hVariant, hFinal⟩⟩ := computeInitiator_ok h
  · exact .delivered ⟨a, b, c, w, d, dv, p, pv, n⟩ hPhase
  · obtain ⟨f, dly, m, e, hEnv, -, hWf, hIn, rfl | rfl⟩ := sendFinal_ok hFinal
    · exact .finalArmed ⟨a, b, c, w, d, dv, p, pv, n⟩ m f dly e hPhase hRole hVariant ⟨hWf, hIn⟩ hEnv
    · exact .finalLate ⟨a, b, c, w, d, dv, p, pv, n⟩ m f dly e hPhase ⟨hWf, hIn⟩ hEnv

theorem Turn.of_computeResponder {s t : State} (hPhase : s.phase = .compute) (h : computeResponder s = .ok t) :
    Turn s t := by
  obtain ⟨a, b, c, w, n, d, dv, p, pv, rfl⟩ := computeResponder_ok h
  exact .reported ⟨a, b, c, w, d, dv, p, pv, n⟩ hPhase

theorem Turn.of_responseSent {s : State} {e : Env} (hPhase : s.phase = .sendResponse) (hEnv : envKept s.env e) :
    Turn s (Machine.responseSent { s with seq := s.seq + 1, env := e }) := by
  unfold Machine.responseSent
  split
  case isTrue hVariant => exact .lastSent e (.inr ⟨hPhase, hVariant⟩) hEnv
  case isFalse hVariant => exact .responseSent e hPhase hVariant hEnv

/-- Every turn of the sequencer is on the list. -/
theorem seqStep_turn (s : State) : Turn s (seqStep s) := by
  unfold seqStep
  cases hPhase : s.phase with
  | init =>
    obtain ⟨e, hEnv, h | ⟨c, hCode, h⟩⟩ := initStep_cases s <;> rw [h]
    · exact .initialised e hPhase hEnv
    · exact .initFailed e c hPhase hCode hEnv
  | idle =>
    cases s.auto with
    | false => exact .stays
    | true => exact .of_seqOutcome fun t h => .started t hPhase h
  | sendPoll => exact .of_txWait fun e hEnv => .pollSent e hPhase hEnv
  | awaitResponse =>
    exact .of_rxWait (.inr (.inl hPhase)) _ fun _ _ _ _ hStore hEnv h => .of_gotResponse hStore hEnv hPhase h
  | sendFinal => exact .of_txWait fun e hEnv => .lastSent e (.inl hPhase) hEnv
  | awaitPoll => exact .of_rxWait (.inl hPhase) _ fun _ _ _ _ hStore hEnv h => .of_gotPoll hStore hEnv hPhase h
  | sendResponse => exact .of_txWait fun e hEnv => .of_responseSent hPhase hEnv
  | awaitFinal =>
    exact .of_rxWait (.inr (.inr hPhase)) _ fun _ _ _ _ hStore hEnv h => .of_gotFinal hStore hEnv hPhase h
  | compute =>
    cases hRole : s.cfg.role with
    | initiator => exact .of_seqOutcome fun _ h => .of_computeInitiator hPhase hRole h
    | responder => exact .of_seqOutcome fun _ h => .of_computeResponder hPhase h
  | fatal => exact .stays

end Sys2Proof.Machine

/-! SUPPORT. What every step keeps: the build, the sink's messages, the counters, the edges of the transition table and
the invariant of Sys2Proof/Safety.lean, each read off the list of turns and the list of commands. -/

namespace Sys2Proof.Machine

/-! What a turn leaves alone or changes in one way. -/

theorem envKept.sink {e f : Env} (h : envKept e f) : f.sink = e.sink := by rw [h]

/-- A turn leaves the build, CMD_FAULT and CTRL.AUTO alone (R25, R200). -/
theorem Turn.kept {s t : State} (h : Turn s t) : t.cfg = s.cfg ∧ t.cmdFault = s.cmdFault ∧ t.auto = s.auto := by
  cases h with
  | started t hPhase hStart =>
    obtain ⟨_, _, _, _, -, -, -, -, rfl⟩ := cycleStart_ok hStart
    exact ⟨rfl, rfl, rfl⟩
  | _ => exact ⟨rfl, rfl, rfl⟩

/-- A turn advances at most one error counter, by one (R293). -/
theorem Turn.errCnt {s t : State} (h : Turn s t) : t.errCnt = s.errCnt ∨ ∃ k, t.errCnt = s.errCnt.bump k := by
  cases h with
  | started t hPhase hStart =>
    obtain ⟨_, _, _, _, -, -, -, -, rfl⟩ := cycleStart_ok hStart
    exact .inl rfl
  | rejected k => exact .inr ⟨k, rfl⟩
  | responseLate | finalLate => exact .inr ⟨.delayedTxTooLate, rfl⟩
  | _ => exact .inl rfl

/-- A turn emits nothing, or the one message of the result it leaves (R234, R268). -/
theorem Turn.sink {s t : State} (h : Turn s t) :
    t.env.sink = s.env.sink ∨ t.env.sink = s.env.sink ++ resultMessage t.distM := by
  cases h with
  | stays | reported => exact .inl rfl
  | started t hPhase hStart =>
    obtain ⟨_, _, _, _, hEnv, -, -, -, rfl⟩ := cycleStart_ok hStart
    exact .inl hEnv.sink
  | delivered => exact .inr rfl
  | finalArmed x m f d e _ _ _ _ hEnv => exact .inr hEnv.sink
  | finalLate x m f d e _ _ hEnv => exact .inr hEnv.sink
  | looks _ hEnv | initialised _ _ hEnv | initFailed _ _ _ _ hEnv | pollSent _ _ hEnv | responseSent _ _ _ hEnv
  | lastSent _ _ hEnv | rejected _ _ _ _ _ _ _ _ hEnv | gotResponse _ _ _ _ _ _ _ _ _ hEnv
  | gotPoll _ _ _ _ _ _ _ _ hEnv | responseLate _ _ _ _ _ _ _ hEnv | gotFinal _ _ _ _ _ _ _ _ _ hEnv =>
    exact .inl hEnv.sink

/-- Only a compute step writes the result registers (R31). -/
theorem Turn.results {s t : State} (h : Turn s t) : s.phase = .compute ∨ sameResults s t := by
  cases h with
  | started t hPhase hStart =>
    obtain ⟨_, _, _, _, -, -, -, -, rfl⟩ := cycleStart_ok hStart
    exact .inr ⟨rfl, rfl, rfl⟩
  | reported _ hPhase | delivered _ hPhase | finalArmed _ _ _ _ _ hPhase | finalLate _ _ _ _ _ hPhase =>
    exact .inl hPhase
  | _ => exact .inr ⟨rfl, rfl, rfl⟩

/-- A turn stays in its phase or takes an edge of the transition table (R224). -/
theorem Turn.phase {s t : State} (h : Turn s t) : t.phase = s.phase ∨ phaseEdge s.cfg s.phase t.phase := by
  unfold phaseEdge
  cases h with
  | stays | looks => exact .inl rfl
  | started t hPhase hStart =>
    obtain ⟨_, _, _, _, -, -, -, -, rfl⟩ := cycleStart_ok hStart
    cases s.cfg.role <;> simp [hPhase]
  | rejected _ _ _ _ _ _ hPhase => rcases hPhase with hPhase | hPhase | hPhase <;> simp [hPhase, raiseErr]
  | lastSent _ hPhase => rcases hPhase with hPhase | ⟨hPhase, hVariant⟩ <;> simp [endCycle, *]
  | responseSent _ hPhase hVariant => simp [hPhase, hVariant]
  | finalArmed _ _ _ _ _ hPhase hRole hVariant => simp [hPhase, hRole, hVariant]
  | responseLate _ _ _ _ _ hPhase | finalLate _ _ _ _ _ hPhase => simp [hPhase, raiseErr]
  | reported _ hPhase | delivered _ hPhase => simp [hPhase, endCycle]
  | initialised _ hPhase | initFailed _ _ hPhase | pollSent _ hPhase | gotResponse _ _ _ _ _ _ hPhase
  | gotPoll _ _ _ _ _ hPhase | gotFinal _ _ _ _ _ hPhase => simp [hPhase]

/-! The invariant, part by part (Sys2Proof/Safety.lean). -/

theorem goodState_iff (s : State) : goodState s = true ↔
    (s.mem.wf = true ∧ s.mem.inBuffers = true) ∧ txLenFits s = true ∧ fatalFits s = true ∧ phaseFits s = true ∧
      cycleFits s = true := by
  simp only [goodState, memFits, Bool.and_eq_true, and_assoc]

theorem tsAllValid_iff (s : State) (rs : List TsReg) :
    tsAllValid s rs = true ↔ ∀ r ∈ rs, (s.ts.get r).valid = true := List.all_eq_true

/-- The lengths BUILD gives TXLEN are those of the catalog (R41, R106). -/
theorem txLenFits_of {s t : State} (hOld : txLenFits s = true)
    (h : t.txLen = s.txLen ∨ t.txLen = 12 ∨ t.txLen = 20 ∨ t.txLen = 24) : txLenFits t = true := by
  unfold txLenFits at *
  rcases h with h | h | h | h <;> simp_all

theorem Turn.store {s t : State} (h : Turn s t) : storeKept s.mem t.mem := by
  cases h with
  | started t hPhase hStart =>
    obtain ⟨_, _, _, _, -, hWf, hIn, -, rfl⟩ := cycleStart_ok hStart
    exact ⟨hWf, hIn⟩
  | rejected _ _ _ _ _ _ _ hStore | gotResponse _ _ _ _ _ _ _ hStore | gotPoll _ _ _ _ _ _ hStore
  | responseLate _ _ _ _ _ _ hStore | gotFinal _ _ _ _ _ _ hStore | finalArmed _ _ _ _ _ _ _ _ hStore
  | finalLate _ _ _ _ _ _ hStore => exact hStore
  | _ => exact .refl _

theorem Turn.txLen {s t : State} (h : Turn s t) :
    t.txLen = s.txLen ∨ t.txLen = 12 ∨ t.txLen = 20 ∨ t.txLen = 24 := by
  cases h with
  | started t hPhase hStart =>
    obtain ⟨_, _, _, _, -, -, -, hLen, rfl⟩ := cycleStart_ok hStart
    exact hLen.imp_right .inl
  | gotPoll | responseLate => exact .inr (.inr (.inl rfl))
  | finalArmed | finalLate => exact .inr (.inr (.inr rfl))
  | _ => exact .inl rfl

/-- Fatal is entered from Init alone, with its code (R296, R321). -/
theorem Turn.fatalFits {s t : State} (h : Turn s t) (hOld : fatalFits s = true) : fatalFits t = true := by
  unfold Machine.fatalFits at *
  cases h with
  | stays | looks => exact hOld
  | initFailed _ _ hPhase hCode => simpa using hCode
  | started t hPhase hStart =>
    obtain ⟨_, _, _, _, -, -, -, -, rfl⟩ := cycleStart_ok hStart
    cases s.cfg.role <;> simpa [hPhase] using hOld
  | rejected _ _ _ _ _ _ hPhase => rcases hPhase with hPhase | hPhase | hPhase <;> simpa [hPhase, raiseErr] using hOld
  | lastSent _ hPhase => rcases hPhase with hPhase | ⟨hPhase, -⟩ <;> simpa [hPhase, endCycle] using hOld
  | responseLate _ _ _ _ _ hPhase | finalLate _ _ _ _ _ hPhase => simpa [hPhase, raiseErr, computed] using hOld
  | reported _ hPhase | delivered _ hPhase => simpa [hPhase, endCycle, computed] using hOld
  | initialised _ hPhase | pollSent _ hPhase | responseSent _ hPhase | gotResponse _ _ _ _ _ _ hPhase
  | gotPoll _ _ _ _ _ hPhase | gotFinal _ _ _ _ _ hPhase | finalArmed _ _ _ _ _ hPhase =>
    simpa [hPhase, computed] using hOld

/-- The phase a turn reaches belongs to the role and variant of the phase it left, and a turn into a phase that reads
timestamps has made them valid (R223, R224). -/
theorem Turn.phaseFits {s t : State} (h : Turn s t) (hOld : phaseFits s = true) : phaseFits t = true := by
  unfold Machine.phaseFits at *
  cases h with
  | stays | looks => exact hOld
  | started t hPhase hStart =>
    obtain ⟨_, _, _, _, -, -, -, -, rfl⟩ := cycleStart_ok hStart
    cases s.cfg.role <;> simp
  | pollSent _ hPhase => simpa [hPhase] using hOld
  | responseSent _ hPhase hVariant => simpa [hPhase, hVariant, tsAllValid_iff] using hOld
  | gotResponse _ _ _ _ _ _ hPhase _ hTs =>
    have hRole : s.cfg.role = .initiator := by simpa [hPhase] using hOld
    simpa [hRole, tsAllValid_iff] using hTs
  | gotPoll _ _ _ _ _ hPhase _ hTs =>
    have hRole : s.cfg.role = .responder := by simpa [hPhase] using hOld
    simpa [hRole, tsAllValid_iff] using hTs
  | gotFinal _ _ _ _ _ hPhase _ hTs hTsNew =>
    obtain ⟨⟨hRole, hVariant⟩, hHeld⟩ : (s.cfg.role = .responder ∧ s.cfg.variant ≠ .singleSided) ∧
        tsAllValid s responderTs = true := by simpa [hPhase] using hOld
    rw [tsAllValid_iff] at hHeld
    have hPollRx := hTs .pollRx (hHeld .pollRx (by decide))
    have hRespTx := hTs .respTx (hHeld .respTx (by decide))
    simp_all [tsAllValid_iff, allTs]
  | finalArmed _ _ _ _ _ hPhase hRole hVariant => simp [computed, hRole, hVariant]
  | initialised | initFailed | lastSent | rejected | responseLate | reported | delivered | finalLate => rfl

/-- A turn into a cycle programs the STS and clears what an earlier cycle left; a turn within it keeps that, and leaves
it for the Final only with a result (R80, R202). -/
theorem Turn.cycleFits {s t : State} (h : Turn s t) (hOld : cycleFits s = true) : cycleFits t = true := by
  unfold Machine.cycleFits at *
  cases h with
  | stays | looks => exact hOld
  | started t hPhase hStart =>
    obtain ⟨_, _, _, _, -, -, -, -, rfl⟩ := cycleStart_ok hStart
    cases s.cfg.role <;> rfl
  | pollSent _ hPhase | responseSent _ hPhase => simpa [hPhase, noResults] using hOld
  | gotResponse _ _ _ _ _ _ hPhase | gotPoll _ _ _ _ _ hPhase | gotFinal _ _ _ _ _ hPhase =>
    simp_all [noResults]
  | finalArmed _ _ _ _ _ hPhase => simp_all [computed]
  | initialised | initFailed | lastSent | rejected | responseLate | reported | delivered | finalLate => rfl

theorem Turn.good {s t : State} (h : Turn s t) (hGood : goodState s = true) : goodState t = true := by
  obtain ⟨⟨hWf, hIn⟩, hLen, hFatal, hPhase, hCycle⟩ := (goodState_iff s).mp hGood
  exact (goodState_iff t).mpr ⟨⟨h.store.1 hWf, h.store.2 hWf hIn⟩, txLenFits_of hLen h.txLen, h.fatalFits hFatal,
    h.phaseFits hPhase, h.cycleFits hCycle⟩

/-! Commands and host writes keep the invariant. -/

/-- In Idle the invariant says nothing of the cycle: only the store, TXLEN and FATAL_CODE count. -/
theorem goodState_idle {s : State} (hIdle : s.phase = .idle) : goodState s = true ↔
    (s.mem.wf = true ∧ s.mem.inBuffers = true) ∧ txLenFits s = true ∧ s.fatalCode = 0 := by
  simp [goodState_iff, fatalFits, phaseFits, cycleFits, hIdle]

/-- The fields a state that is not in Idle may change without leaving the invariant. -/
theorem goodState_congr {s t : State} (hGood : goodState s = true) (hStore : storeKept s.mem t.mem)
    (h : t = { s with
      cmdFault := t.cmdFault, auto := t.auto, pend := t.pend, mem := t.mem, env := t.env }) : goodState t = true := by
  obtain ⟨⟨hWf, hIn⟩, hLen, hFatal, hPhase, hCycle⟩ := (goodState_iff s).mp hGood
  refine (goodState_iff t).mpr ⟨⟨hStore.1 hWf, hStore.2 hWf hIn⟩, ?_, ?_, ?_, ?_⟩ <;> rw [h] <;> assumption

theorem exec_good {i : Instr} {s t : State} (hExec : exec i s = .next t) (hGood : goodState s = true) :
    goodState t = true := by
  obtain ⟨-, h⟩ | ⟨-, c, h⟩ | ⟨hPhase, u, hEffect, h⟩ := exec_cases i s <;> cases h.symm.trans hExec
  · exact hGood
  · exact goodState_congr hGood (.refl _) rfl
  · by_cases hIdle : s.phase = .idle
    · by_cases hRun : i = .run
      · subst hRun
        exact goodState_congr ((Turn.started u hIdle hEffect).good hGood) (.refl _) rfl
      · obtain ⟨-, -, hCode, -, -, -, -, -, hSamePhase, hWf, hIn, hLen⟩ := commandEffect_kept hEffect
        obtain ⟨⟨hWf', hIn'⟩, hLen', hCode'⟩ := (goodState_idle hIdle).mp hGood
        refine (goodState_idle ((hSamePhase hRun).trans hIdle)).mpr ⟨⟨hWf hWf', hIn hWf' hIn'⟩, ?_, hCode.trans hCode'⟩
        exact txLenFits_of hLen' hLen
    · obtain ⟨rfl, -⟩ := hPhase.resolve_left hIdle
      cases hEffect
      exact goodState_congr hGood (.refl _) rfl

/-- The register at an address is a word of the buffer that holds it, or is in the table (R21). -/
theorem regAt_cases {a : Nat} {r : Reg} (h : regAt a = some r) :
    (∃ b, r = .bufWord b a ∧ b.holds a = true) ∨ (a, r) ∈ regTable := by
  unfold regAt at h
  split_ifs at h with hBlob hTx hRx
  · exact .inl ⟨.blob, (Option.some.inj h).symm, hBlob⟩
  · exact .inl ⟨.tx, (Option.some.inj h).symm, hTx⟩
  · exact .inl ⟨.rx, (Option.some.inj h).symm, hRx⟩
  · obtain ⟨before, after, hTable, -⟩ := List.lookup_eq_some_iff.mp h
    exact .inr (by simp [hTable])

theorem holds_of_regAt {a a' : Nat} {b : Buf} (h : regAt a = some (.bufWord b a')) : a' = a ∧ b.holds a = true := by
  obtain ⟨b', hReg, hHolds⟩ | hTable := regAt_cases h
  · cases hReg
    exact ⟨rfl, hHolds⟩
  · simp [regTable] at hTable

/-- A host write to an aligned address keeps the invariant: a buffer word lies inside its buffer (R20, R69). -/
theorem memSetWord_kept {a : Nat} {b : Buf} {m : Memory} (v : Word) (hAligned : a % 4 = 0) (hHolds : b.holds a = true) :
    storeKept m (memSetWord m a v) := by
  obtain ⟨hLo, hHi⟩ : b.base ≤ a ∧ a < b.base + b.size := by simpa [Buf.holds] using hHolds
  have hWord : a + 4 ≤ b.base + b.size := by
    cases b <;> simp only [Buf.base, Buf.size] at * <;> omega
  refine ⟨fun hWf => memSetWord_wf hWf a v, fun _ hIn => ?_⟩
  have hSame : memSetWord m a v = memWrite m b (a - b.base) (bytes32 v) := by
    rw [memWrite, memSetWord, Nat.add_sub_cancel' hLo]
  rw [hSame]
  exact memWrite_inBuffers hIn b _ _ (by rw [show (bytes32 v).length = 4 from rfl]; omega)

theorem writeReg_good {s : State} {a : Nat} {r : Reg} (v : Word) (hAligned : a % 4 = 0) (hReg : regAt a = some r)
    (hGood : goodState s = true) : goodState (writeReg s v r) = true := by
  obtain ⟨au, ts, k, p, l, m, hWrite, hGated, -, hMem⟩ := writeReg_frame s v r
  have hStore : storeKept s.mem m := by
    obtain rfl | ⟨b, a', rfl, rfl⟩ := hMem
    · exact .refl _
    · obtain ⟨rfl, hHolds⟩ := holds_of_regAt hReg
      exact memSetWord_kept v hAligned hHolds
  rw [hWrite]
  by_cases hIdle : s.phase = .idle
  · obtain ⟨⟨hWf, hIn⟩, hLen, hCode⟩ := (goodState_idle hIdle).mp hGood
    exact (goodState_idle (by exact hIdle)).mpr ⟨⟨hStore.1 hWf, hStore.2 hWf hIn⟩, hLen, hCode⟩
  · obtain ⟨rfl, rfl, rfl, rfl⟩ := hGated hIdle
    exact goodState_congr hGood hStore rfl

/-! The step. -/

theorem resetWith_good (c : Config) (e : Env) : goodState (State.resetWith c e) = true := by
  simp [goodState_iff, State.resetWith, Memory.wf, Memory.inBuffers, txLenFits, fatalFits, phaseFits, cycleFits]

/-- To show a property of the steps that are not reset: show it of a turn of the sequencer, a host read, a command, a
word that is no command and a register write, and that it does not look at the input taken off the list. -/
theorem step_elim {P : State → State → Prop} (hInput : ∀ s l t, P (withInputs s l) t → P s t)
    (hSame : ∀ s, P s s) (hTurn : ∀ s t, Turn s t → P s t)
    (hRead : ∀ s l, P s { s with env := { s.env with readBack := l } })
    (hExec : ∀ i s t, exec i s = .next t → P s t) (hFault : ∀ s c, P s (raiseCmdFault s c))
    (hWrite : ∀ s a v r, a % 4 = 0 → regAt a = some r → P s (writeReg s v r)) {s t : State}
    (hStep : step s = .next t) :
    (resetNext s = true ∧ ∃ rest, t = resetEvent (withInputs s rest)) ∨ P s t := by
  obtain ⟨-, rfl⟩ | ⟨x, rest, hInputs, h⟩ := step_cases hStep
  · exact .inr (hTurn _ _ (seqStep_turn s))
  obtain ⟨-, rfl⟩ | ⟨rfl, rfl⟩ | ⟨a, -, rfl⟩ | ⟨w, i, -, -, h⟩ | ⟨w, e, -, -, rfl⟩ |
    ⟨a, v, -, hAligned, -, ⟨r, hReg, -, rfl⟩ | ⟨-, rfl⟩⟩ := h
  · exact .inr (hInput _ _ _ (hTurn _ _ (seqStep_turn _)))
  · exact .inl ⟨by simp [resetNext, hInputs], rest, rfl⟩
  · exact .inr (hInput _ _ _ (hRead (withInputs s rest) _))
  · exact .inr (hInput _ _ _ (hExec _ _ _ h))
  · split
    · exact .inr (hInput _ _ _ (hSame _))
    · exact .inr (hInput _ _ _ (hFault _ _))
  · exact .inr (hInput _ _ _ (hWrite _ a v r hAligned hReg))
  · exact .inr (hInput _ _ _ (hSame _))

/-- Settles O47: reset begins a good state, and every other step keeps the invariant it finds. -/
theorem stepKeepsInvariant : Obligations.StepKeepsInvariant := by
  intro s t hGood hStep
  have h := step_elim (P := fun s t => goodState s = true → goodState t = true)
    (fun s l t h hGood => h (goodState_congr hGood (.refl _) rfl)) (fun _ => id) (fun _ _ h => h.good)
    (fun s l hGood => goodState_congr hGood (.refl _) rfl) (fun _ _ _ h => exec_good h)
    (fun s c hGood => goodState_congr hGood (.refl _) rfl)
    (fun s a v r hAligned hReg hGood => writeReg_good v hAligned hReg hGood) hStep
  obtain ⟨-, rest, rfl⟩ | h := h
  · exact resetWith_good _ _
  · exact h hGood

/-- Settles O48. -/
theorem invariantAtReset : Obligations.InvariantAtReset :=
  ⟨resetWith_good _ _, resetWith_good⟩

end Sys2Proof.Machine

/-! SUPPORT. Steps as a whole: the statements about what every step does or leaves alone, from the turns of the sequencer
and the commands. -/

namespace Sys2Proof.Machine

/-! What a command does to the counters, the sink and the result registers. -/

/-- Of the commands only ERRINC counts, only DELIVER emits, and only TOFSS and TOFDS write the result registers. -/
theorem commandEffect_outputs {i : Instr} {s t : State} (h : commandEffect i s = .ok t) :
    (t.errCnt = s.errCnt ∨ ∃ k, t.errCnt = s.errCnt.bump k) ∧
    (t.env.sink = s.env.sink ∨ t.env.sink = s.env.sink ++ resultMessage t.distM) ∧
    (sameResults s t ∨ i = .tofss ∨ i = .tofds) := by
  cases i with
  | enc32 ts off =>
    obtain ⟨r, -, h⟩ := tsOperand_bind_ok h
    obtain ⟨-, -, rfl⟩ := (enc32Effect_ok_iff _ _ _ _).mp h
    exact ⟨.inl rfl, .inl rfl, .inl ⟨rfl, rfl, rfl⟩⟩
  | dec32 ts off =>
    obtain ⟨r, -, h⟩ := tsOperand_bind_ok h
    obtain ⟨-, rfl⟩ := (dec32Effect_ok_iff _ _ _ _).mp h
    exact ⟨.inl rfl, .inl rfl, .inl ⟨rfl, rfl, rfl⟩⟩
  | txsched msg =>
    obtain ⟨m, -, h⟩ := msgOperand_bind_ok h
    obtain ⟨_, _, _, _, _, -, rfl⟩ := txschedEffect_frame h
    exact ⟨.inl rfl, .inl rfl, .inl ⟨rfl, rfl, rfl⟩⟩
  | build msg =>
    obtain ⟨m, -, h⟩ := msgOperand_bind_ok h
    obtain ⟨_, rfl, -⟩ := buildEffect_frame h
    exact ⟨.inl rfl, .inl rfl, .inl ⟨rfl, rfl, rfl⟩⟩
  | validate msg =>
    obtain ⟨m, -, h⟩ := msgOperand_bind_ok h
    obtain ⟨-, rfl⟩ := (validateEffect_ok_iff _ _ _).mp h
    exact ⟨.inl rfl, .inl rfl, .inl ⟨rfl, rfl, rfl⟩⟩
  | tofss =>
    obtain ⟨_, _, _, _, _, rfl⟩ := tofssEffect_frame h
    exact ⟨.inl rfl, .inl rfl, .inr (.inl rfl)⟩
  | tofds =>
    obtain ⟨_, _, _, _, _, rfl⟩ := tofdsEffect_frame h
    exact ⟨.inl rfl, .inl rfl, .inr (.inr rfl)⟩
  | durms a b =>
    obtain ⟨r, -, h⟩ := tsOperand_bind_ok h
    obtain ⟨q, -, h⟩ := tsOperand_bind_ok h
    obtain ⟨-, rfl⟩ := (durmsEffect_ok_iff _ _ _ _).mp h
    exact ⟨.inl rfl, .inl rfl, .inl ⟨rfl, rfl, rfl⟩⟩
  | applykey =>
    obtain ⟨_, _, hFrame⟩ := applyKey_frame s
    rw [← Except.ok.inj h, hFrame]
    exact ⟨.inl rfl, .inl rfl, .inl ⟨rfl, rfl, rfl⟩⟩
  | armcyc =>
    obtain ⟨_, hFrame, hEnv⟩ := armCycle_frame s
    rw [← Except.ok.inj h, hFrame]
    exact ⟨.inl rfl, .inl hEnv.sink, .inl ⟨rfl, rfl, rfl⟩⟩
  | errinc kind mask =>
    obtain ⟨k, -, h⟩ := kindOperand_bind_ok h
    cases h
    exact ⟨.inr ⟨k, rfl⟩, .inl rfl, .inl ⟨rfl, rfl, rfl⟩⟩
  | deliver =>
    obtain ⟨-, rfl⟩ := (deliverEffect_ok_iff _ _).mp h
    exact ⟨.inl rfl, .inr rfl, .inl ⟨rfl, rfl, rfl⟩⟩
  | run =>
    obtain ⟨_, _, _, _, hEnv, -, -, -, rfl⟩ := cycleStart_ok h
    exact ⟨.inl rfl, .inl hEnv.sink, .inl ⟨rfl, rfl, rfl⟩⟩
  | pdoacvt | postkey | seqinc | tsclr =>
    cases h
    exact ⟨.inl rfl, .inl rfl, .inl ⟨rfl, rfl, rfl⟩⟩

/-- A command that is dropped or faults changes CMD_FAULT at most; one that completes has its effect. -/
theorem exec_inv {i : Instr} {s t : State} (hExec : exec i s = .next t) :
    t = { s with cmdFault := t.cmdFault } ∨
      ((s.phase = .idle ∨ i = .postkey) ∧ ∃ u, commandEffect i s = .ok u ∧ t = { u with cmdFault := .noFault }) := by
  obtain ⟨-, h⟩ | ⟨-, c, h⟩ | ⟨hPhase, u, hEffect, h⟩ := exec_cases i s <;> cases h.symm.trans hExec
  · exact .inl rfl
  · exact .inl rfl
  · exact .inr ⟨hPhase.imp_right And.left, u, hEffect, rfl⟩

theorem exec_cfg {i : Instr} {s t : State} (hExec : exec i s = .next t) : t.cfg = s.cfg := by
  obtain h | ⟨-, u, hEffect, rfl⟩ := exec_inv hExec
  · rw [h]
  · exact (commandEffect_kept hEffect).1

theorem exec_errCnt {i : Instr} {s t : State} (hExec : exec i s = .next t) :
    t.errCnt = s.errCnt ∨ ∃ k, t.errCnt = s.errCnt.bump k := by
  obtain h | ⟨-, u, hEffect, rfl⟩ := exec_inv hExec
  · rw [h]
    exact .inl rfl
  · exact (commandEffect_outputs hEffect).1

theorem exec_sink {i : Instr} {s t : State} (hExec : exec i s = .next t) :
    t.env.sink = s.env.sink ∨ t.env.sink = s.env.sink ++ resultMessage t.distM := by
  obtain h | ⟨-, u, hEffect, rfl⟩ := exec_inv hExec
  · rw [h]
    exact .inl rfl
  · exact (commandEffect_outputs hEffect).2.1

theorem exec_results {i : Instr} {s t : State} (hExec : exec i s = .next t) :
    sameResults s t ∨ (s.phase = .idle ∧ (i = .tofss ∨ i = .tofds)) := by
  obtain h | ⟨hPhase, u, hEffect, rfl⟩ := exec_inv hExec
  · rw [h]
    exact .inl ⟨rfl, rfl, rfl⟩
  · obtain ⟨-, -, hSame | hTof⟩ := commandEffect_outputs hEffect
    · exact .inl hSame
    · refine .inr ⟨hPhase.resolve_right ?_, hTof⟩
      rintro rfl
      simp at hTof

/-- Only RUN changes the phase, as the sequencer's cycle start does (R201). -/
theorem exec_phase {i : Instr} {s t : State} (hExec : exec i s = .next t) :
    t.phase = s.phase ∨ phaseEdge s.cfg s.phase t.phase := by
  obtain h | ⟨hPhase, u, hEffect, rfl⟩ := exec_inv hExec
  · rw [h]
    exact .inl rfl
  · by_cases hRun : i = .run
    · subst hRun
      exact (Turn.started u (hPhase.resolve_right nofun) hEffect).phase
    · obtain ⟨-, -, -, -, -, -, -, -, hSame, -⟩ := commandEffect_kept hEffect
      exact .inl (hSame hRun)

/-- A register write touches none of the fields below (R50). -/
theorem writeReg_kept (s : State) (v : Word) (r : Reg) :
    (writeReg s v r).cfg = s.cfg ∧ (writeReg s v r).phase = s.phase ∧ (writeReg s v r).errCnt = s.errCnt ∧
      (writeReg s v r).env = s.env ∧ sameResults s (writeReg s v r) := by
  obtain ⟨_, _, _, _, _, _, h, -⟩ := writeReg_frame s v r
  rw [h]
  exact ⟨rfl, rfl, rfl, rfl, rfl, rfl, rfl⟩

/-! The statements. -/

/-- Settles O46: the phase changes by a turn of the sequencer, whose edges are those of the table, or by RUN. -/
theorem transitionsAreTheTable : Obligations.TransitionsAreTheTable := by
  intro s t hReset hStep
  obtain ⟨hReset', -⟩ | h := step_elim (P := fun s t => t.phase = s.phase ∨ phaseEdge s.cfg s.phase t.phase)
    (fun _ _ _ h => h) (fun _ => .inl rfl) (fun _ _ h => h.phase) (fun _ _ => .inl rfl) (fun _ _ _ => exec_phase)
    (fun _ _ => .inl rfl) (fun s _ v r _ _ => .inl (writeReg_kept s v r).2.1) hStep
  · simp [hReset] at hReset'
  · exact h

/-- Settles O51: no turn, command or host write has the build among the fields it changes, and reset keeps it. -/
theorem buildNeverChanges : Obligations.BuildNeverChanges := by
  refine ⟨fun s t hStep => ?_, fun s => (seqStep_turn s).kept.2⟩
  obtain ⟨-, rest, rfl⟩ | h := step_elim (P := fun s t => t.cfg = s.cfg) (fun _ _ _ h => h) (fun _ => rfl)
    (fun _ _ h => h.kept.1) (fun _ _ => rfl) (fun _ _ _ => exec_cfg) (fun _ _ => rfl)
    (fun s _ v r _ _ => (writeReg_kept s v r).1) hStep
  · rfl
  · exact h

/-- Settles O52: a turn raises at most one error, and ERRINC is the one command that counts. -/
theorem oneErrorPerStep : Obligations.OneErrorPerStep := by
  intro s t hReset hStep
  obtain ⟨hReset', -⟩ | h := step_elim (P := fun s t => t.errCnt = s.errCnt ∨ ∃ k, t.errCnt = s.errCnt.bump k)
    (fun _ _ _ h => h) (fun _ => .inl rfl) (fun _ _ h => h.errCnt) (fun _ _ => .inl rfl) (fun _ _ _ => exec_errCnt)
    (fun _ _ => .inl rfl) (fun s _ v r _ _ => .inl (writeReg_kept s v r).2.2.1) hStep
  · simp [hReset] at hReset'
  · exact h

/-- Settles O59: DELIVER and the Initiator's compute step emit the message of the result, no other step emits. -/
theorem sinkGetsWholeMessages : Obligations.SinkGetsWholeMessages := by
  intro s t hStep
  obtain ⟨-, rest, rfl⟩ | h := step_elim
    (P := fun s t => t.env.sink = s.env.sink ∨ t.env.sink = s.env.sink ++ resultMessage t.distM)
    (fun _ _ _ h => h) (fun _ => .inl rfl) (fun _ _ h => h.sink) (fun _ _ => .inl rfl) (fun _ _ _ => exec_sink)
    (fun _ _ => .inl rfl) (fun s _ v r _ _ => .inl (by rw [(writeReg_kept s v r).2.2.2.1])) hStep
  · exact .inl rfl
  · exact h

/-- Settles O60: a turn outside Compute, a host transaction and every command but the two leave the registers alone. -/
theorem resultsComeFromComputeOnly : Obligations.ResultsComeFromComputeOnly := by
  intro s t hStep hChanged
  obtain ⟨-, rfl⟩ | ⟨x, rest, hInputs, h⟩ := step_cases hStep
  · exact .inr (.inl ((seqStep_turn s).results.resolve_right hChanged))
  obtain ⟨-, rfl⟩ | ⟨rfl, -⟩ | ⟨a, -, rfl⟩ | ⟨w, i, rfl, hDecode, hExec⟩ | ⟨w, e, -, -, rfl⟩ |
    ⟨a, v, -, -, -, ⟨r, -, -, rfl⟩ | ⟨-, rfl⟩⟩ := h
  · exact .inr (.inl ((seqStep_turn (withInputs s rest)).results.resolve_right hChanged))
  · exact .inl (by simp [resetNext, hInputs])
  · exact absurd ⟨rfl, rfl, rfl⟩ hChanged
  · obtain ⟨hIdle, rfl | rfl⟩ := (exec_results hExec).resolve_left hChanged
    · exact .inr (.inr ⟨hIdle, .inl ⟨w, rest, hInputs, hDecode⟩⟩)
    · exact .inr (.inr ⟨hIdle, .inr ⟨w, rest, hInputs, hDecode⟩⟩)
  · refine absurd ?_ hChanged
    split <;> exact ⟨rfl, rfl, rfl⟩
  · exact absurd (writeReg_kept (withInputs s rest) v r).2.2.2.2 hChanged
  · exact absurd ⟨rfl, rfl, rfl⟩ hChanged

/-- Settles O50: the reset event is `State.resetWith` at the build and the environment it finds, whose fields are the
values of R49. -/
theorem resetGivesStatedValues : Obligations.ResetGivesStatedValues := by
  refine ⟨rfl, fun s rest hInputs => step_of_input hInputs, fun c e => ?_⟩
  have hNoTs (q : TsReg) : tsValid (State.resetWith c e) q = false := by cases q <;> rfl
  have hNoErr (k : ErrKind) : (State.resetWith c e).errCnt.get k = 0 := by cases k <;> rfl
  exact ⟨rfl, rfl, rfl, hNoErr, rfl, rfl, rfl, hNoTs, rfl, rfl, rfl, rfl, rfl, rfl, rfl, rfl, rfl, rfl, rfl, rfl, rfl,
    rfl, rfl, fun _ => rfl⟩

end Sys2Proof.Machine

/-! SUPPORT. Commands that fault (spec/30_encoding.md R97, spec/60_exceptions.md R300): what each check answers, in the
order in which a command makes them. -/

namespace Sys2Proof.Machine

/-- In Idle a command whose effect raises a fault leaves its code and nothing else. -/
theorem exec_of_error {i : Instr} {s : State} {c : CmdFault} (hIdle : s.phase = .idle)
    (hEffect : commandEffect i s = .error c) : exec i s = .next { s with cmdFault := c } := by
  have hNotFatal : s.phase ≠ .fatal := by simp [hIdle]
  rw [exec_eq, idleCommand_idle _ hIdle, anytimeCommand, if_neg hNotFatal, ite_self, hEffect]
  rfl

/-! Operands: legal means named, illegal means BAD_OPERAND (R92 to R95). -/

theorem tsReg?_of_legal {a : Byte} (h : legalTs a = true) : ∃ r, tsReg? a = some r := by
  have hAll : ∀ a, legalTs a = true → (tsReg? a).isSome = true := by decide
  exact Option.isSome_iff_exists.mp (hAll a h)

theorem tsReg?_of_illegal {a : Byte} (h : legalTs a = false) : tsReg? a = none := by
  revert a
  decide

theorem msg?_of_illegal {a : Byte} (h : legalMsg a = false) : msg? a = none := by
  revert a
  decide

theorem msg?_of_legal {a : Byte} (h : legalMsg a = true) :
    (a = 0 ∧ msg? a = some .poll) ∨ (a = 1 ∧ msg? a = some .resp) ∨ (a = 2 ∧ msg? a = some .final) := by
  revert a
  decide

theorem errKind?_of_illegal {a : Byte} (h : legalKind a = false) : errKind? a = none := by
  revert a
  decide

theorem legalOff_iff (b : Byte) : legalOff b = true ↔ b.toNat ≤ 20 := by
  simp [legalOff, BitVec.le_def]

/-! What each check answers. -/

section
variable {α : Type} {a : Byte}

theorem tsOperand_bind_of_some {f : TsReg → Except CmdFault α} {r : TsReg} (h : tsReg? a = some r) :
    (do f (← tsOperand a)) = f r := by simp [tsOperand, h, bind, Except.bind]

theorem tsOperand_bind_of_none {f : TsReg → Except CmdFault α} (h : tsReg? a = none) :
    (do f (← tsOperand a)) = .error .badOperand := by simp [tsOperand, h, bind, Except.bind]

theorem msgOperand_bind_of_some {f : Msg → Except CmdFault α} {m : Msg} (h : msg? a = some m) :
    (do f (← msgOperand a)) = f m := by simp [msgOperand, h, bind, Except.bind]

theorem msgOperand_bind_of_none {f : Msg → Except CmdFault α} (h : msg? a = none) :
    (do f (← msgOperand a)) = .error .badOperand := by simp [msgOperand, h, bind, Except.bind]

theorem kindOperand_bind_of_none {f : ErrKind → Except CmdFault α} (h : errKind? a = none) :
    (do f (← kindOperand a)) = .error .badOperand := by simp [kindOperand, h, bind, Except.bind]

end

theorem enc32Effect_badOperand {off : Nat} (h : 24 < off + 4) (r : TsReg) (s : State) :
    enc32Effect r off s = .error .badOperand := by
  simp [enc32Effect, frameBufLen, h, bind, Except.bind, throw, throwThe, MonadExceptOf.throw]

theorem enc32Effect_tsInvalid {off : Nat} {r : TsReg} {s : State} (hOff : off + 4 ≤ 24) (h : tsValid s r = false) :
    enc32Effect r off s = .error .tsInvalid := by
  have hAll : tsAllValid s [r] = false := by simp [tsAllValid, h]
  simp [enc32Effect, frameBufLen, Nat.not_lt.mpr hOff, needTs_of_invalid hAll, bind, Except.bind]

theorem dec32Effect_badOperand {off : Nat} {s : State} (h : rxReadable s < off + 4) (r : TsReg) :
    dec32Effect r off s = .error .badOperand := by
  simp [dec32Effect, h, bind, Except.bind, throw, throwThe, MonadExceptOf.throw]

theorem txschedEffect_badOperand {m : Msg} {s : State} (h : msgExists s.cfg m = false ∨ schedOf s.cfg m = none) :
    txschedEffect m s = .error .badOperand := by
  cases hExists : msgExists s.cfg m with
  | false => simp [txschedEffect, needMsg, hExists, bind, Except.bind]
  | true =>
    have hNone := h.resolve_left (by simp [hExists])
    simp [txschedEffect, needMsg, hExists, hNone, bind, Except.bind, throw, throwThe, MonadExceptOf.throw]

theorem txschedEffect_tsInvalid {m : Msg} {s : State} {src dst : TsReg} {dly : Nat} (hExists : msgExists s.cfg m = true)
    (hSched : schedOf s.cfg m = some (src, dst, dly)) (h : tsValid s src = false) :
    txschedEffect m s = .error .tsInvalid := by
  have hAll : tsAllValid s [src] = false := by simp [tsAllValid, h]
  simp [txschedEffect, needMsg, hExists, hSched, needTs_of_invalid hAll, bind, Except.bind]

theorem buildEffect_badOperand {m : Msg} {s : State} (h : msgExists s.cfg m = false) :
    buildEffect m s = .error .badOperand := by
  simp [buildEffect, needMsg, h, bind, Except.bind]

theorem buildEffect_tsInvalid {m : Msg} {s : State} (hExists : msgExists s.cfg m = true)
    (h : tsAllValid s ((embedded m).map Prod.fst) = false) : buildEffect m s = .error .tsInvalid := by
  simp [buildEffect, needMsg, hExists, needTs_of_invalid h, bind, Except.bind]

theorem validateEffect_badOperand {m : Msg} {s : State} (h : msgExists s.cfg m = false) :
    validateEffect m s = .error .badOperand := by
  simp [validateEffect, needMsg, h, bind, Except.bind]

theorem durmsEffect_tsInvalid {a b : TsReg} {s : State} (h : tsAllValid s [a, b] = false) :
    durmsEffect a b s = .error .tsInvalid := by
  simp [durmsEffect, needTs_of_invalid h, bind, Except.bind]

theorem tofssEffect_tsInvalid {s : State} (h : tsAllValid s initiatorTs = false) :
    tofssEffect s = .error .tsInvalid := by
  rw [initiatorTs] at h
  simp [tofssEffect, needTs_of_invalid h, bind, Except.bind]

theorem tofdsEffect_tsInvalid {s : State} (h : tsAllValid s allTs = false) : tofdsEffect s = .error .tsInvalid := by
  rw [allTs] at h
  simp [tofdsEffect, needTs_of_invalid h, bind, Except.bind]

theorem msgExists_final_singleSided {c : Config} (h : c.variant = .singleSided) : msgExists c .final = false := by
  simp [msgExists, h]

theorem msgExists_of {c : Config} {m : Msg} (h : m = .final → c.variant ≠ .singleSided) : msgExists c m = true := by
  simpa [msgExists, ← imp_iff_not_or] using h

/-! The order of the checks, command by command (R97 item 4; R27). -/

/-- Operands outside the opcode table's ranges. -/
theorem commandEffect_of_illFormed {i : Instr} (h : i.wellFormed = false) (s : State) :
    commandEffect i s = .error .badOperand := by
  cases i with
  | enc32 ts off =>
    cases hTs : legalTs ts with
    | false => exact tsOperand_bind_of_none (tsReg?_of_illegal hTs)
    | true =>
      obtain ⟨r, hReg⟩ := tsReg?_of_legal hTs
      have hOff : ¬ off.toNat ≤ 20 := by
        rw [← legalOff_iff]
        simpa [Instr.wellFormed, hTs] using h
      exact (tsOperand_bind_of_some hReg).trans (enc32Effect_badOperand (by omega) r s)
  | dec32 ts off =>
    cases hTs : legalTs ts with
    | false => exact tsOperand_bind_of_none (tsReg?_of_illegal hTs)
    | true =>
      obtain ⟨r, hReg⟩ := tsReg?_of_legal hTs
      have hOff : ¬ off.toNat ≤ 20 := by
        rw [← legalOff_iff]
        simpa [Instr.wellFormed, hTs] using h
      have hRoom : rxReadable s ≤ 24 := min_le_right _ _
      exact (tsOperand_bind_of_some hReg).trans (dec32Effect_badOperand (by omega) r)
  | txsched msg =>
    cases hMsg : legalMsg msg with
    | false => exact msgOperand_bind_of_none (msg?_of_illegal hMsg)
    | true =>
      have hPoll : msg = 0 := by simpa [Instr.wellFormed, hMsg] using h
      subst hPoll
      exact txschedEffect_badOperand (m := .poll) (s := s) (.inr rfl)
  | build msg | validate msg => exact msgOperand_bind_of_none (msg?_of_illegal h)
  | durms a b =>
    cases hA : legalTs a with
    | false => exact tsOperand_bind_of_none (tsReg?_of_illegal hA)
    | true =>
      obtain ⟨r, hReg⟩ := tsReg?_of_legal hA
      have hB : legalTs b = false := by simpa [Instr.wellFormed, hA] using h
      exact (tsOperand_bind_of_some hReg).trans (tsOperand_bind_of_none (tsReg?_of_illegal hB))
  | errinc kind mask => exact kindOperand_bind_of_none (errKind?_of_illegal h)
  | _ => cases h

/-- FINAL in SingleSided. -/
theorem commandEffect_of_noFinal {i : Instr} {s : State} (h : namesFinal i = true) (hVariant : s.cfg.variant = .singleSided) :
    commandEffect i s = .error .badOperand := by
  have hNone := msgExists_final_singleSided hVariant
  cases i with
  | txsched msg =>
    obtain rfl : msg = 2 := by simpa [namesFinal] using h
    exact txschedEffect_badOperand (m := .final) (.inl hNone)
  | build msg =>
    obtain rfl : msg = 2 := by simpa [namesFinal] using h
    exact buildEffect_badOperand hNone
  | validate msg =>
    obtain rfl : msg = 2 := by simpa [namesFinal] using h
    exact validateEffect_badOperand hNone
  | _ => cases h

/-- A DEC32 field that was not received, or that lies outside RXBUF (R82). -/
theorem commandEffect_dec32_outside {ts off : Byte} {s : State} (h : min s.rxLen.toNat 24 < off.toNat + 4) :
    commandEffect (.dec32 ts off) s = .error .badOperand := by
  cases hReg : tsReg? ts with
  | none => exact tsOperand_bind_of_none hReg
  | some r => exact (tsOperand_bind_of_some hReg).trans (dec32Effect_badOperand h r)

/-- Settles O7, by the three ways an operand can be out of range. -/
theorem illegalOperandFaults : Obligations.IllegalOperandFaults := by
  intro i s hIdle hIllegal
  refine exec_of_error hIdle ?_
  obtain hForm | ⟨hFinal, hVariant⟩ | ⟨ts, off, rfl, hOutside⟩ := hIllegal
  · exact commandEffect_of_illFormed hForm s
  · exact commandEffect_of_noFinal hFinal hVariant
  · exact commandEffect_dec32_outside hOutside

theorem tsAllValid_of_mem_invalid {s : State} {r : TsReg} {rs : List TsReg} (hMem : r ∈ rs) (h : tsValid s r = false) :
    tsAllValid s rs = false := by
  rw [Bool.eq_false_iff, ne_eq, tsAllValid, List.all_eq_true]
  exact fun hAll => by simp [hAll r hMem] at h

/-- A legal command finds the register it reads invalid, whichever of them it is. -/
theorem commandEffect_of_invalid {i : Instr} {s : State} {r : TsReg} (hForm : i.wellFormed = true)
    (hFinal : namesFinal i = true → s.cfg.variant ≠ .singleSided) (hRead : r ∈ readsTs i) (h : tsValid s r = false) :
    commandEffect i s = .error .tsInvalid := by
  cases i with
  | enc32 ts off =>
    have hReg : tsReg? ts = some r := by simpa [readsTs] using hRead
    have hOff : off.toNat ≤ 20 := by
      rw [← legalOff_iff]
      exact (Bool.and_eq_true_iff.mp hForm).2
    exact (tsOperand_bind_of_some hReg).trans (enc32Effect_tsInvalid (by omega) h)
  | txsched msg =>
    obtain ⟨rfl, -⟩ | ⟨rfl, hMsg⟩ | ⟨rfl, hMsg⟩ := msg?_of_legal (Bool.and_eq_true_iff.mp hForm).1
    · simp [readsTs] at hRead
    · obtain rfl : r = .pollRx := by simpa [readsTs] using hRead
      exact (msgOperand_bind_of_some hMsg).trans (txschedEffect_tsInvalid (msgExists_of nofun) rfl h)
    · obtain rfl : r = .respRx := by simpa [readsTs] using hRead
      exact (msgOperand_bind_of_some hMsg).trans (txschedEffect_tsInvalid (msgExists_of fun _ => hFinal rfl) rfl h)
  | build msg =>
    have hAll := tsAllValid_of_mem_invalid hRead h
    obtain ⟨rfl, -⟩ | ⟨rfl, hMsg⟩ | ⟨rfl, hMsg⟩ := msg?_of_legal hForm
    · simp [readsTs] at hRead
    · exact (msgOperand_bind_of_some hMsg).trans (buildEffect_tsInvalid (msgExists_of nofun) hAll)
    · exact (msgOperand_bind_of_some hMsg).trans (buildEffect_tsInvalid (msgExists_of fun _ => hFinal rfl) hAll)
  | durms a b =>
    obtain ⟨hA, hB⟩ := Bool.and_eq_true_iff.mp hForm
    obtain ⟨ra, hRegA⟩ := tsReg?_of_legal hA
    obtain ⟨rb, hRegB⟩ := tsReg?_of_legal hB
    have hMem : r ∈ [ra, rb] := by simpa [readsTs, hRegA, hRegB] using hRead
    exact ((tsOperand_bind_of_some hRegA).trans (tsOperand_bind_of_some hRegB)).trans
      (durmsEffect_tsInvalid (tsAllValid_of_mem_invalid hMem h))
  | tofss => exact tofssEffect_tsInvalid (tsAllValid_of_mem_invalid hRead h)
  | tofds => exact tofdsEffect_tsInvalid (tsAllValid_of_mem_invalid hRead h)
  | _ => cases hRead

/-- Settles O8. -/
theorem invalidTimestampFaults : Obligations.InvalidTimestampFaults := by
  rintro i s hIdle hForm hFinal ⟨r, hRead, h⟩
  exact exec_of_error hIdle (commandEffect_of_invalid hForm hFinal hRead h)

/-- Settles O6: outside Idle the phase is looked at before the operands are. -/
theorem busyOutsideIdle : Obligations.BusyOutsideIdle := fun _ _ => exec_busy

/-- Settles O9: a command that completes clears CMD_FAULT, and one that does not changes CMD_FAULT alone. -/
theorem faultingCommandChangesOnlyItsCode : Obligations.FaultingCommandChangesOnlyItsCode := by
  intro i s t hExec hFault
  obtain h | ⟨-, u, -, rfl⟩ := exec_inv hExec
  · exact h
  · exact absurd rfl hFault

end Sys2Proof.Machine

/-! SUPPORT. Commands that complete, codec and catalog (spec/40_codec.md R130, R131; spec/41_frame_catalog.md R142, R143):
the bytes of a field, the frame BUILD leaves in TXBUF, and the header VALIDATE looks for. -/

namespace Sys2Proof.Machine

/-! Fields and words (R10, R65). -/

theorem encField_getD (v : DWord) {j : Nat} (hj : j < 4) : (encField v).getD j 0 = v.extractLsb' (8 * j) 8 := by
  have hByte : byteOf (trunc32 v) j = v.extractLsb' (8 * j) 8 := by
    rw [byteOf, trunc32, BitVec.extractLsb'_extractLsb'_of_le (by omega)]
  rw [← hByte]
  interval_cases j <;> rfl

theorem le32_toNat (b0 b1 b2 b3 : Byte) :
    (le32 b0 b1 b2 b3).toNat = b0.toNat + 256 * b1.toNat + 65536 * b2.toNat + 16777216 * b3.toNat := by
  have h0 := b0.isLt
  have h1 := b1.isLt
  have h2 := b2.isLt
  simp only [le32, BitVec.toNat_append, ← Nat.shiftLeft_add_eq_or_of_lt, h0, h2]
  rw [← Nat.shiftLeft_add_eq_or_of_lt (by simp only [Nat.shiftLeft_eq]; omega)]
  simp only [Nat.shiftLeft_eq]
  omega

/-- A timestamp field stored in a buffer (R63, R65). -/
theorem fieldAt_memWrite {m : Memory} (hWf : m.wf = true) (b : Buf) (off : Nat) (v : DWord) :
    fieldAt (memWrite m b off (encField v)) b off v := fun j hj => by
  rw [bufByte_memWrite_same hWf b off (show j < (encField v).length from hj), encField_getD v hj]

/-- Settles O10: ENC32 stores the field of the register, four bytes at the offset. -/
theorem enc32WritesLowWord : Obligations.Enc32WritesLowWord := by
  intro s ts off r hIdle hWf hReg hOff hValid
  refine ⟨_, exec_enc32 hIdle hReg hOff hValid, rfl, fieldAt_memWrite hWf .tx _ _, fun a ha => ?_⟩
  have hOutside : ¬ (Buf.tx.base + off.toNat ≤ a ∧ a < Buf.tx.base + off.toNat + (encField (tsVal s r)).length) := by
    rw [show (encField (tsVal s r)).length = 4 from rfl]
    omega
  exact (read_memWrite hWf .tx _ _ a).trans (if_neg hOutside)

/-- Settles O11: DEC32 writes the little-endian number of the four bytes into the register it names. -/
theorem dec32ReadsField : Obligations.Dec32ReadsField := by
  intro s ts off r hIdle hReg hInside
  refine ⟨_, exec_dec32 hIdle hReg hInside, rfl, ?_, ?_, fun q hq => TsFile.get_put_other _ _ hq⟩
  · have hLow := (decField s off.toNat).isLt
    have hVal : tsVal { setTs s r ((decField s off.toNat).setWidth 64) with cmdFault := .noFault } r =
        (decField s off.toNat).setWidth 64 := congrArg TsSlot.value (TsFile.get_put_same ..)
    rw [hVal, BitVec.toNat_setWidth, Nat.mod_eq_of_lt (by omega), decField, le32_toNat]
  · exact congrArg TsSlot.valid (TsFile.get_put_same ..)

/-! The frame in TXBUF (R142). -/

theorem exec_build {s : State} {msg : Byte} {m : Msg} (hIdle : s.phase = .idle) (hMsg : msg? msg = some m)
    (hExists : msgExists s.cfg m = true) (hTs : tsAllValid s ((embedded m).map Prod.fst) = true) :
    ∃ t, exec (.build msg) s = .next t ∧ t = { s with mem := t.mem, txLen := t.txLen, cmdFault := .noFault } ∧
      t.mem = (built m s).mem ∧ t.txLen = (built m s).txLen :=
  ⟨_, exec_of_effect hIdle ((msgOperand_bind_of_some hMsg).trans (buildEffect_eq hExists hTs)), rfl, rfl, rfl⟩

/-- TXBUF after BUILD is the frame, with zeros after its end. -/
theorem bufByte_built {m : Msg} {s : State} (hWf : s.mem.wf = true) {i : Nat} (hi : i < 24) :
    bufByte (built m s).mem .tx i = (frameBytes m s).getD i 0 := by
  have hHolds : Buf.tx.holds (Buf.tx.base + i) = true := by
    rw [Buf.holds_tx, show Buf.tx.base = 384 from rfl]
    omega
  rw [bufByte, built, build_read m s hWf, if_pos hHolds, Nat.add_sub_cancel_left]

theorem built_seq (m : Msg) {s : State} (hWf : s.mem.wf = true) : bufByte (built m s).mem .tx 2 = s.seq := by
  rw [bufByte_built hWf (by decide)]
  rfl

theorem built_zeros (m : Msg) {s : State} (hWf : s.mem.wf = true) {i : Nat} (hEnd : frameLen m ≤ i + 2) (hi : i < 24) :
    bufByte (built m s).mem .tx i = 0 := by
  have hLen := frameBytes_length m s
  rw [bufByte_built hWf hi, List.getD_eq_default _ _ (by omega)]

theorem built_sameOutside (m : Msg) {s : State} (hWf : s.mem.wf = true) : sameOutside .tx s.mem (built m s).mem :=
  fun a ha => (build_read m s hWf a).trans (if_neg (by simp [ha]))

/-- The bytes of each timestamp a message carries stand at its offset in the frame (R107 to R109). -/
theorem frameBytes_field {m : Msg} (s : State) {p : TsReg × Nat} (hField : p ∈ embedded m) {j : Nat} (hj : j < 4) :
    (frameBytes m s).getD (p.2 + j) 0 = (encField (tsVal s p.1)).getD j 0 := by
  cases m with
  | poll => cases hField
  | resp =>
    simp only [embedded, List.mem_cons, List.not_mem_nil, or_false] at hField
    obtain rfl | rfl := hField <;> interval_cases j <;> rfl
  | final =>
    simp only [embedded, List.mem_cons, List.not_mem_nil, or_false] at hField
    obtain rfl | rfl | rfl := hField <;> interval_cases j <;> rfl

theorem built_field {m : Msg} {s : State} (hWf : s.mem.wf = true) {p : TsReg × Nat} (hField : p ∈ embedded m) :
    fieldAt (built m s).mem .tx p.2 (tsVal s p.1) := fun j hj => by
  have hFits := embedded_fits m p hField
  rw [bufByte_built hWf (by omega), frameBytes_field s hField hj, encField_getD _ hj]

/-- The registers BUILD reads are those the frame carries. -/
theorem readsTs_build {msg : Byte} {m : Msg} (hMsg : msg? msg = some m) :
    readsTs (.build msg) = (embedded m).map Prod.fst := by
  have hLegal : legalMsg msg = true := by
    by_contra hIllegal
    rw [msg?_of_illegal (Bool.eq_false_of_not_eq_true hIllegal)] at hMsg
    cases hMsg
  obtain ⟨rfl, h⟩ | ⟨rfl, h⟩ | ⟨rfl, h⟩ := msg?_of_legal hLegal <;> cases hMsg.symm.trans h <;> rfl

/-- Settles O13: what BUILD leaves is `built`, whose bytes are those of `frameBytes` and zeros. -/
theorem buildLaysOutFrame : Obligations.BuildLaysOutFrame := by
  intro s msg m hIdle hWf hMsg hVariant hTs
  rw [readsTs_build hMsg] at hTs
  obtain ⟨t, hExec, hFrame, hMem, hLen⟩ := exec_build hIdle hMsg (msgExists_of hVariant) hTs
  refine ⟨t, hExec, hFrame, ?_⟩
  rw [hMem, hLen]
  refine ⟨headerAt_built m hWf, built_seq m hWf, built_sameOutside m hWf, ?_, ?_, ?_⟩ <;> rintro rfl
  · exact ⟨rfl, fun i hEnd hi => built_zeros .poll hWf (by simp only [frameLen]; omega) hi⟩
  · exact ⟨rfl, built_field (m := .resp) hWf (p := (.pollRx, 10)) (by decide),
      built_field (m := .resp) hWf (p := (.respTx, 14)) (by decide),
      fun i hEnd hi => built_zeros .resp hWf (by simp only [frameLen]; omega) hi⟩
  · exact ⟨rfl, built_field (m := .final) hWf (p := (.pollTx, 10)) (by decide),
      built_field (m := .final) hWf (p := (.respRx, 14)) (by decide),
      built_field (m := .final) hWf (p := (.finalTx, 18)) (by decide),
      fun i hEnd hi => built_zeros .final hWf (by simp only [frameLen]; omega) hi⟩

/-! The header VALIDATE looks for (R143). -/

theorem headerAt_iff (m : Memory) (b : Buf) (c : Config) (k : KeyMaterial) (msg : Msg) :
    headerAt m b c k msg ↔ ∀ j, j < 10 → j ≠ 2 → bufByte m b j = (template c k msg).getD j 0 := by
  constructor
  · rintro ⟨h0, h1, h3, h4, h5, h6, h7, h8, h9⟩ j hj hSeq
    interval_cases j <;> first | exact absurd rfl hSeq | assumption
  · intro h
    refine ⟨?_, ?_, ?_, ?_, ?_, ?_, ?_, ?_, ?_⟩ <;> exact h _ (by decide) (by decide)

/-- Settles O14: the verdict is the length and the template outside byte 2, and nothing else is written. -/
theorem validateChecksLengthAndHeader : Obligations.ValidateChecksLengthAndHeader := by
  intro s msg m hIdle hMsg hVariant
  refine ⟨_, exec_validate hIdle hMsg (msgExists_of hVariant), ?_⟩
  rw [frameMatches_iff, headerAt_iff]
  cases m <;> rfl

end Sys2Proof.Machine

/-! SUPPORT. Commands that complete, the calculator and the session (spec/42_tof.md R160 to R173; spec/43_sts_session.md
R181 to R185; spec/44_sequencer.md R231 to R234). -/

namespace Sys2Proof.Machine

/-! Intervals as numbers (R160, R167, R173). -/

theorem extractLsb'_sub_toNat (x y : DWord) {n : Nat} (hn : n ≤ 64) :
    (x.extractLsb' 0 n - y.extractLsb' 0 n).toNat = (x.toNat + 2 ^ 64 - y.toNat) % 2 ^ n := by
  have hy := y.isLt
  rw [extractLsb'_sub_extractLsb' x y hn, BitVec.extractLsb'_toNat, Nat.shiftRight_zero, BitVec.toNat_sub,
    Nat.mod_mod_of_dvd _ (Nat.pow_dvd_pow 2 hn), show 2 ^ 64 - y.toNat + x.toNat = x.toNat + 2 ^ 64 - y.toNat by omega]

theorem dF64_eq (s : State) (a b : TsReg) :
    dF64 s a b = f64OfNat (((tsVal s a).toNat + 2 ^ 64 - (tsVal s b).toNat) % 2 ^ 32) := by
  rw [dF64, d32, trunc32, trunc32, extractLsb'_sub_toNat _ _ (by decide)]

theorem d40_toNat (s : State) (a b : TsReg) :
    (d40 s a b).toNat = ((tsVal s b).toNat + 2 ^ 64 - (tsVal s a).toNat) % 2 ^ 40 := by
  rw [d40, trunc40, trunc40, extractLsb'_sub_toNat _ _ (by decide)]

theorem longPair_iff (s : State) (a b : TsReg) :
    longPair s a b = true ↔ 2 ^ 32 ≤ ((tsVal s a).toNat + 2 ^ 64 - (tsVal s b).toNat) % 2 ^ 40 := by
  rw [longPair, long40, decide_eq_true_iff, trunc40, trunc40, extractLsb'_sub_toNat _ _ (by decide)]

/-! Result registers (R163, R165). -/

theorem isResult_settleNaN (c : BitVec 52) (v : DWord) : isResult (settleNaN c v) v := by
  unfold isResult
  obtain ⟨hNumber, hSame⟩ | ⟨hNaN, hSettled⟩ := settleNaN_cases c v
  · rw [if_neg (by simp [hNumber]), hSame]
  · rwa [if_pos hNaN]

/-- The three results of one command follow from each other (R163). -/
theorem setResults_isResult (s : State) (d : DWord) :
    isResult (setResults s d).tofDtu d ∧ isResult (setResults s d).tofS (fmul (setResults s d).tofDtu dtuS) ∧
      isResult (setResults s d).distM (fmul (setResults s d).tofS s.cfg.cMps) :=
  ⟨isResult_settleNaN _ _, isResult_settleNaN _ _, isResult_settleNaN _ _⟩

/-- Settles O17: the formula's wrapped differences are numbers modulo 2^32, its results are settled one after the other. -/
theorem tofssComputes : Obligations.TofssComputes := by
  intro s hIdle hValid
  obtain ⟨hDtu, hS, hM⟩ := setResults_isResult s (tofSsDtu s)
  refine ⟨_, exec_tofss hIdle hValid, rfl, ?_, hS, hM, longPair_iff s .respRx .pollTx⟩
  simpa only [tofSsDtu, dF64_eq, clockRatio] using hDtu

theorem exec_tofds {s : State} (hIdle : s.phase = .idle) (hValid : tsAllValid s allTs = true) :
    exec .tofds s = .next { setResults s (tofDsDtu s) with
      wrapFlag := longPair s .respTx .pollRx || longPair s .finalRx .respTx, cmdFault := .noFault } :=
  exec_of_effect (i := .tofds) hIdle ((tofdsEffect_ok_iff s _).mpr ⟨hValid, rfl⟩)

theorem longPairs_iff (s : State) :
    (longPair s .respTx .pollRx || longPair s .finalRx .respTx) = true ↔
      2 ^ 32 ≤ ((tsVal s .respTx).toNat + 2 ^ 64 - (tsVal s .pollRx).toNat) % 2 ^ 40 ∨
      2 ^ 32 ≤ ((tsVal s .finalRx).toNat + 2 ^ 64 - (tsVal s .respTx).toNat) % 2 ^ 40 := by
  rw [Bool.or_eq_true, longPair_iff, longPair_iff]

/-- Settles O20, as O17 with the four differences of the written form. -/
theorem tofdsComputes : Obligations.TofdsComputes := by
  intro s hIdle hValid
  obtain ⟨hDtu, hS, hM⟩ := setResults_isResult s (tofDsDtu s)
  refine ⟨_, exec_tofds hIdle hValid, rfl, ?_, hS, hM, longPairs_iff s⟩
  simpa only [tofDsDtu, dF64_eq] using hDtu

/-! The degenerate case (R165). -/

theorem isNaN64_canonicalNaN : isNaN64 canonicalNaN = true := by decide

theorem isNaN64_fmul {a : DWord} (h : isNaN64 a = true) (b : DWord) : isNaN64 (fmul a b) = true := by
  have hUnpack : unpack64 a = .nan := of_decide_eq_true h
  rw [fmul, hUnpack]
  exact isNaN64_canonicalNaN

theorem quiet_of_isResult {got want : DWord} (h : isResult got want) (hNaN : isNaN64 want = true) :
    isNaN64 got = true ∧ got.getLsbD 51 = true := by
  rwa [isResult, if_pos hNaN] at h

/-- With no interval at all the formula divides zero by zero. -/
theorem tofDsDtu_degenerate {s : State} (h1 : d32 s .respRx .pollTx = 0) (h2 : d32 s .finalRx .respTx = 0)
    (h3 : d32 s .finalTx .respRx = 0) (h4 : d32 s .respTx .pollRx = 0) : tofDsDtu s = canonicalNaN := by
  simp only [tofDsDtu, dF64, h1, h2, h3, h4]
  decide

/-- Settles O21: the NaN of the division is carried through both multiplications, and each register gets a quiet one. -/
theorem tofdsDegenerateGivesNaN : Obligations.TofdsDegenerateGivesNaN := by
  intro s hIdle hValid h1 h2 h3 h4
  obtain ⟨hDtu, hS, hM⟩ := setResults_isResult s (tofDsDtu s)
  have hNaN : isNaN64 (tofDsDtu s) = true := by
    rw [tofDsDtu_degenerate h1 h2 h3 h4]
    exact isNaN64_canonicalNaN
  obtain ⟨hNaNDtu, hQuietDtu⟩ := quiet_of_isResult hDtu hNaN
  obtain ⟨hNaNS, hQuietS⟩ := quiet_of_isResult hS (isNaN64_fmul hNaNDtu _)
  exact ⟨_, exec_tofds hIdle hValid, rfl, rfl, ⟨hNaNDtu, hQuietDtu⟩, ⟨hNaNS, hQuietS⟩,
    quiet_of_isResult hM (isNaN64_fmul hNaNS _)⟩

/-! Side outputs (R166, R167). -/

/-- Settles O22. -/
theorem pdoacvtConverts : Obligations.PdoacvtConverts := fun _ hIdle => exec_of_effect (i := .pdoacvt) hIdle rfl

theorem exec_durms {s : State} {a b : Byte} {ra rb : TsReg} (hIdle : s.phase = .idle) (ha : a.toNat = ra.index)
    (hb : b.toNat = rb.index) (hValid : tsAllValid s [ra, rb] = true) :
    exec (.durms a b) s =
      .next { s with durMs := durationMs (d40 s ra rb), durValid := true, cmdFault := .noFault } := by
  refine exec_of_effect (t := { s with durMs := durationMs (d40 s ra rb), durValid := true }) hIdle ?_
  rw [commandEffect, tsOperand_of_index ha, tsOperand_of_index hb]
  exact (durmsEffect_ok_iff ..).mpr ⟨hValid, rfl⟩

/-- Settles O23: the interval modulo 2^40 as a number. -/
theorem durmsMeasures : Obligations.DurmsMeasures := by
  intro s a b ra rb hIdle ha hb hRa hRb
  rw [exec_durms hIdle ha hb (by simp [tsAllValid, hRa, hRb]), durationMs, d40_toNat, dtuS]

/-! The session (R181 to R185). -/

/-- Settles O24. -/
theorem postkeyFillsMailbox : Obligations.PostkeyFillsMailbox := fun _ => exec_postkey

theorem materialOf_eq (r : Role) (p : Mailbox) :
    materialOf r p =
      { key := p.key
        iv := p.iv
        srcAddr := if r = .initiator then p.src else p.dest
        dstAddr := if r = .initiator then p.dest else p.src } := by
  cases r <;> rfl

/-- Settles O25: the mailbox applied with the crossover, or APPLYKEY without effect. -/
theorem applykeyConsumesMailbox : Obligations.ApplykeyConsumesMailbox := by
  refine fun s hIdle => ⟨fun hPend => ?_, fun hNone => ?_⟩
  · rw [exec_applykey_pending hIdle hPend, materialOf_eq]
  · have hApply : applyKey s = s := if_neg (by simp [hNone])
    exact exec_of_effect (i := .applykey) hIdle (congrArg Except.ok hApply)

/-- Settles O27, by the two ways of programming the STS. -/
theorem armcycProgramsRadio : Obligations.ArmcycProgramsRadio := by
  refine fun s hIdle => ⟨fun hFirst => ?_, fun hLater => ?_⟩
  · have hArm : armCycle s = { radioSetStsIv (radioSetStsKey s) with firstCycle := false } := if_pos hFirst
    exact exec_of_effect (i := .armcyc) hIdle (congrArg Except.ok hArm)
  · have hArm : armCycle s = radioSetStsIvLow s := if_neg (by simp [hLater])
    exact exec_of_effect (i := .armcyc) hIdle (congrArg Except.ok hArm)

/-! ERRINC, TXSCHED and DELIVER (R231, R233, R234). -/

theorem kindOperand_of_code {a : Byte} {k : ErrKind} (h : a.toNat = k.code) : kindOperand a = .ok k := by
  have ha : a = BitVec.ofNat 8 k.code := by rw [← h, BitVec.ofNat_toNat, BitVec.setWidth_eq]
  simp [kindOperand, ha]

theorem code_eq_one_iff {a : Byte} {k : ErrKind} (h : a.toNat = k.code) : k = .rxError ↔ a = 1 := by
  rw [← BitVec.toNat_inj, h]
  cases k <;> decide

/-- Settles O30. -/
theorem errincCounts : Obligations.ErrincCounts := by
  intro s kind mask k hIdle hKind
  have hEffect : commandEffect (.errinc kind mask) s = .ok (countError s k mask) := by
    rw [commandEffect, kindOperand_of_code hKind]
    rfl
  refine ⟨_, exec_of_effect hIdle hEffect, ?_, ?_, fun j hj => ErrCounters.get_bump_other _ hj⟩
  · simp only [countError, code_eq_one_iff hKind]
  · exact (congrArg BitVec.toNat (ErrCounters.get_bump_same s.errCnt k)).trans (BitVec.toNat_add _ _)

theorem exec_txsched {s : State} {msg : Byte} {m : Msg} {src dst : TsReg} {dly : Nat} (hIdle : s.phase = .idle)
    (hMsg : msg? msg = some m) (hExists : msgExists s.cfg m = true) (hSched : schedOf s.cfg m = some (src, dst, dly))
    (hValid : tsValid s src = true) :
    exec (.txsched msg) s = .next { scheduled s src dst dly with cmdFault := .noFault } :=
  exec_of_effect hIdle ((msgOperand_bind_of_some hMsg).trans (txschedEffect_eq hExists hSched hValid))

/-- DLYTIME as a number (R233). -/
theorem scheduled_dlyTime_toNat (s : State) (src dst : TsReg) (dly : Nat) :
    (scheduled s src dst dly).dlyTime.toNat = ((tsVal s src).toNat % 2 ^ 40 + dly) % 2 ^ 40 / 256 := by
  rw [scheduled, dlyTime_toNat, schedTime_toNat]

/-- The transmit timestamp as a number (R233). -/
theorem scheduled_stamp_toNat (s : State) (src dst : TsReg) (dly : Nat) :
    (tsVal (scheduled s src dst dly) dst).toNat =
      (((tsVal s src).toNat % 2 ^ 40 + dly) % 2 ^ 40 / 512 * 512 + s.cfg.txAntDly.toNat) % 2 ^ 40 := by
  have hVal : tsVal (scheduled s src dst dly) dst = schedStamp s.cfg (schedTime (tsVal s src) dly) :=
    congrArg TsSlot.value (TsFile.get_put_same ..)
  rw [hVal, schedStamp_toNat, schedTime_toNat]

theorem scheduled_get_other (s : State) (src : TsReg) {dst q : TsReg} (dly : Nat) (h : q ≠ dst) :
    (scheduled s src dst dly).ts.get q = s.ts.get q := TsFile.get_put_other _ _ h

theorem scheduled_completes {s : State} {msg : Byte} {src dst : TsReg} {dly : Nat}
    (hExec : exec (.txsched msg) s = .next { scheduled s src dst dly with cmdFault := .noFault }) :
    ∃ t, exec (.txsched msg) s = .next t ∧ t = { s with ts := t.ts, dlyTime := t.dlyTime, cmdFault := .noFault } ∧
      (let x := ((tsVal s src).toNat % 2 ^ 40 + dly) % 2 ^ 40
       t.dlyTime.toNat = x / 256 ∧
       (tsVal t dst).toNat = (x / 512 * 512 + s.cfg.txAntDly.toNat) % 2 ^ 40) ∧
      tsValid t dst = true ∧ ∀ q, q ≠ dst → t.ts.get q = s.ts.get q :=
  ⟨_, hExec, rfl, ⟨scheduled_dlyTime_toNat s src dst dly, scheduled_stamp_toNat s src dst dly⟩,
    congrArg TsSlot.valid (TsFile.get_put_same ..), fun _ => scheduled_get_other s src dly⟩

/-- Settles O32: both messages by what `scheduled` leaves, as numbers. -/
theorem txschedSchedules : Obligations.TxschedSchedules := by
  intro s msg src dst dly hIdle hMsg hValid
  refine scheduled_completes ?_
  obtain ⟨rfl, rfl, rfl, rfl⟩ | ⟨rfl, hVariant, rfl, rfl, rfl⟩ := hMsg
  · exact exec_txsched (m := .resp) hIdle rfl (msgExists_of nofun) rfl hValid
  · exact exec_txsched (m := .final) hIdle rfl (msgExists_of fun _ => hVariant) rfl hValid

/-- The message of a result: after the tag, the bytes of the register, low byte first (R113). -/
theorem resultMessage_getD (d : DWord) {j : Nat} (hj : j < 8) :
    (resultMessage d).getD (j + 1) 0 = d.extractLsb' (8 * j) 8 := by
  interval_cases j <;> rfl

/-- Settles O33. -/
theorem deliverEmits : Obligations.DeliverEmits := by
  refine fun s hIdle => ⟨fun hValid => ?_, fun hNone => ?_⟩
  · have hEffect := (deliverEffect_ok_iff s _).mpr ⟨hValid, rfl⟩
    exact ⟨resultMessage s.distM, exec_of_effect (i := .deliver) hIdle hEffect, rfl, rfl,
      fun j => resultMessage_getD s.distM⟩
  · exact exec_of_error (i := .deliver) hIdle (if_neg (by simp [hNone]))

end Sys2Proof.Machine

/-! SUPPORT. Naturals in binary64 (spec/42_tof.md R170): the pattern of a normal number, and the rounding of a natural that
has no more than 53 bits, which loses nothing. -/

namespace Sys2Proof.Machine

/-- The number a positive normal pattern stands for: its exponent field and its fraction. -/
theorem unpack64_normal {ex fr : Nat} (hPos : 0 < ex) (hTop : ex < 2047) (hFr : fr < 2 ^ 52) :
    unpack64 (pattern64 (ex * 2 ^ 52 + fr)) = .fin false (2 ^ 52 + fr) ((ex : Int) - 1075) := by
  have hVal : (pattern64 (ex * 2 ^ 52 + fr)).toNat = ex * 2 ^ 52 + fr := by
    rw [pattern64, BitVec.toNat_ofNat, Nat.mod_eq_of_lt (by omega)]
  have hSign : (pattern64 (ex * 2 ^ 52 + fr)).getLsbD 63 = false := by
    rw [BitVec.getLsbD, hVal]
    exact Nat.testBit_lt_two_pow (by omega)
  have hEx : ((pattern64 (ex * 2 ^ 52 + fr)).extractLsb' 52 11).toNat = ex := by
    rw [BitVec.extractLsb'_toNat, hVal, Nat.shiftRight_eq_div_pow]
    omega
  have hFrac : ((pattern64 (ex * 2 ^ 52 + fr)).extractLsb' 0 52).toNat = fr := by
    rw [BitVec.extractLsb'_toNat, hVal, Nat.shiftRight_zero]
    omega
  simp only [unpack64, hSign, hEx, hFrac]
  rw [if_neg (by omega), if_neg (by omega)]

/-! The rounding of a whole number. -/

theorem withSign_positive (f : FpFormat) (mag : Nat) : withSign f false mag = mag := by simp [withSign]

theorem divRne_one (n : Nat) : divRne n 1 = n := by simp [divRne, Nat.mod_one]

theorem scaleQuot_natCast (n d k : Nat) : scaleQuot n d k = (n * 2 ^ k, d) := by simp [scaleQuot]

theorem log2Quot_one {n : Nat} (hn : n ≠ 0) : log2Quot n 1 = n.log2 := by
  have hLow : 2 ^ n.log2 ≤ n := Nat.log2_self_le hn
  have hNotBelow : ¬ (scaleQuot n 1 (-(n.log2 : Int))).1 < (scaleQuot n 1 (-(n.log2 : Int))).2 := by
    unfold scaleQuot
    split
    · have hZero : n.log2 = 0 := by omega
      simp [hZero]
      omega
    · simpa using hLow
  simp only [log2Quot, show Nat.log2 1 = 0 from rfl, Nat.cast_zero, sub_zero]
  rw [if_neg hNotBelow]

section
variable {n : Nat} (hn : n ≠ 0) (hLt : n < 2 ^ 53)
include hn hLt

theorem log2_le_52 : n.log2 ≤ 52 := Nat.lt_succ_iff.mp ((Nat.log2_lt hn).mpr hLt)

/-- The significand of a natural with its leading bit moved to bit 52. -/
theorem significand_bounds : 2 ^ 52 ≤ n * 2 ^ (52 - n.log2) ∧ n * 2 ^ (52 - n.log2) < 2 ^ 53 := by
  have hLe := log2_le_52 hn hLt
  constructor
  · calc 2 ^ 52 = 2 ^ n.log2 * 2 ^ (52 - n.log2) := by rw [← Nat.pow_add, Nat.add_sub_cancel' hLe]
      _ ≤ n * 2 ^ (52 - n.log2) := Nat.mul_le_mul_right _ (Nat.log2_self_le hn)
  · calc n * 2 ^ (52 - n.log2) < 2 ^ (n.log2 + 1) * 2 ^ (52 - n.log2) :=
          Nat.mul_lt_mul_of_pos_right Nat.lt_log2_self (by positivity)
      _ = 2 ^ 53 := by rw [← Nat.pow_add]; congr 1; omega

theorem roundMag_natural :
    roundMag binary64 n 1 0 = (n.log2 + 1023) * 2 ^ 52 + (n * 2 ^ (52 - n.log2) - 2 ^ 52) := by
  have hLe := log2_le_52 hn hLt
  obtain ⟨hLow, hHigh⟩ := significand_bounds hn hLt
  have hMin : FpFormat.eMin binary64 = -1074 := by decide
  have hInf : FpFormat.infMag binary64 = 2047 * 2 ^ 52 := by decide
  have hUnit : max (-1074 : Int) ((n.log2 : Int) + 0 + 1 - (53 : Nat)) = n.log2 - 52 := by omega
  have hScale : (0 : Int) - ((n.log2 : Int) - 52) = ((52 - n.log2 : Nat) : Int) := by omega
  have hField : ((n.log2 : Int) - 52 - -1074).toNat = n.log2 + 1022 := by omega
  simp only [roundMag, hMin, hInf, log2Quot_one hn, show binary64.prec = 53 from rfl, hUnit, hScale, hField,
    scaleQuot_natCast, divRne_one]
  omega

/-- The pattern of a natural below 2^53 holds all its bits. -/
theorem unpack64_f64OfNat :
    unpack64 (f64OfNat n) = .fin false (n * 2 ^ (52 - n.log2)) ((n.log2 : Int) - 52) := by
  have hLe := log2_le_52 hn hLt
  obtain ⟨hLow, hHigh⟩ := significand_bounds hn hLt
  rw [f64OfNat, round64, roundQuot, if_neg hn, withSign_positive, roundMag_natural hn hLt]
  have hSig : 2 ^ 52 + (n * 2 ^ (52 - n.log2) - 2 ^ 52) = n * 2 ^ (52 - n.log2) := by omega
  have hExp : ((n.log2 + 1023 : Nat) : Int) - 1075 = n.log2 - 52 := by omega
  rw [unpack64_normal (by omega) (by omega) (by omega), hSig, hExp]

end

/-- Settles O19: zero by its pattern, every other natural by the significand its pattern holds. -/
theorem naturalsConvertExactly : Obligations.NaturalsConvertExactly := by
  intro n hLt
  by_cases hn : n = 0
  · subst hn
    have hUnpack : unpack64 (f64OfNat 0) = .fin false 0 (-1074) := by decide
    simp [isFinite64, f64Value, hUnpack]
  · have hUnpack := unpack64_f64OfNat hn hLt
    refine ⟨by simp [isFinite64, hUnpack], ?_⟩
    have hLe := log2_le_52 hn hLt
    have hScale : ((n.log2 : Int) - 52) = -((52 - n.log2 : Nat) : Int) := by omega
    simp only [f64Value, hUnpack, Bool.false_eq_true, if_false, hScale, zpow_neg, zpow_natCast, Nat.cast_mul,
      Nat.cast_pow, Nat.cast_ofNat]
    exact mul_inv_cancel_right₀ (by positivity) _

end Sys2Proof.Machine

/-! SUPPORT. The host port (spec/10_state.md R20 to R50; spec/20_memory.md R69, R70): what a write reaches in which phase,
and what each register reads as. -/

namespace Sys2Proof.Machine

/-! Writes that reach nothing (R21, R50). -/

/-- The registers the host may write, CMD apart (R21). -/
def Reg.writable : Reg → Bool
  | .ctrl => true
  | .kRaw => true
  | .pdoaRaw => true
  | .rxLen => true
  | .tsLo _ => true
  | .tsHi _ => true
  | .bufWord _ _ => true
  | _ => false

theorem writeReg_readOnly {r : Reg} (h : r.writable = false) (s : State) (v : Word) : writeReg s v r = s := by
  cases r <;> first | rfl | cases h

/-- Outside Idle only CTRL and the words of BLOB are written. -/
theorem writeReg_of_not_idle {s : State} (hNotIdle : s.phase ≠ .idle) (v : Word) {r : Reg} (hCtrl : r ≠ .ctrl)
    (hBlob : ∀ a, r ≠ .bufWord .blob a) : writeReg s v r = s := by
  cases r with
  | ctrl => exact absurd rfl hCtrl
  | bufWord b a =>
    cases b with
    | blob => exact absurd rfl (hBlob a)
    | tx | rx => exact if_neg hNotIdle
  | kRaw | pdoaRaw | rxLen | tsLo | tsHi => exact if_neg hNotIdle
  | _ => rfl

/-- A host write at which the map has nothing, or a register that the write leaves alone. -/
theorem step_hostWrite_kept {s : State} {a : Nat} {v : Word} {rest : List Input}
    (hInputs : s.env.inputs = .hostWrite a v :: rest) (hAligned : a % 4 = 0) (hRange : a ≤ 0x1B7)
    (hKept : ∀ r, regAt a = some r → r ≠ .cmd ∧ writeReg (withInputs s rest) v r = withInputs s rest) :
    step s = .next (withInputs s rest) := by
  cases hReg : regAt a with
  | none =>
    rw [step_of_input hInputs, takeInput, hostWrite, onPort_of_address _ hAligned hRange, hReg]
  | some r =>
    obtain ⟨hCmd, hWrite⟩ := hKept r hReg
    rw [step_hostWrite_reg hInputs hAligned hRange hReg hCmd, hWrite]

theorem regTable_cmd_ctrl : ∀ p ∈ regTable, (p.2 = .cmd → p.1 = 0x000) ∧ (p.2 = .ctrl → p.1 = 0x008) := by decide

/-- Where the table has a register the host may write. -/
theorem regTable_writable : ∀ p ∈ regTable, p.2.writable = true →
    p.1 = 0x008 ∨ p.1 = 0x018 ∨ p.1 = 0x01C ∨ p.1 = 0x030 ∨ (0x040 ≤ p.1 ∧ p.1 < 0x070) := by decide

/-- The addresses of a buffer (R21, R60). -/
theorem Buf.holds_iff (b : Buf) (a : Nat) : b.holds a = true ↔ b.base ≤ a ∧ a < b.base + b.size := by
  simp [Buf.holds]

/-- Settles O55: outside Idle by the phase gate, in Idle because the addresses have no register that can be written. -/
theorem writesOutsideIdleAreIgnored : Obligations.WritesOutsideIdleAreIgnored := by
  intro s a v rest hInputs hAligned hRange hCase
  refine step_hostWrite_kept hInputs hAligned hRange fun r hReg => ?_
  generalize hNow : withInputs s rest = u
  have hPhase : u.phase = s.phase := by rw [← hNow, withInputs_phase]
  rw [← hPhase] at hCase
  obtain ⟨hNotIdle, hNotCmd, hNotCtrl, hNotBlob⟩ | ⟨-, hAddr⟩ := hCase
  · obtain ⟨b, rfl, hHolds⟩ | hTable := regAt_cases hReg
    · refine ⟨nofun, writeReg_of_not_idle hNotIdle v nofun ?_⟩
      rintro a' hBlob
      cases hBlob
      simp [hNotBlob] at hHolds
    · obtain ⟨hCmd, hCtrl⟩ := regTable_cmd_ctrl _ hTable
      refine ⟨fun h => hNotCmd (hCmd h), writeReg_of_not_idle hNotIdle v (r := r) (fun h => hNotCtrl (hCtrl h)) ?_⟩
      rintro a' rfl
      simp [regTable] at hTable
  · obtain ⟨b, rfl, hHolds⟩ | hTable := regAt_cases hReg
    · rw [Buf.holds_iff] at hHolds
      cases b <;> simp only [Buf.base, Buf.size] at hHolds <;> omega
    · obtain ⟨hCmd, -⟩ := regTable_cmd_ctrl _ hTable
      refine ⟨fun h => ?_, writeReg_readOnly ?_ _ v⟩
      · have hZero : a = 0 := hCmd h
        omega
      · by_contra hWritable
        have hAt := regTable_writable _ hTable (Bool.eq_true_of_not_eq_false hWritable)
        simp only at hAt
        omega

/-! Writes that take effect (R25, R26, R28, R29, R42). -/

theorem regAt_tsHalf (r : TsReg) (hi : Bool) :
    regAt (0x040 + 8 * r.index + (if hi then 4 else 0)) = some (if hi then .tsHi r else .tsLo r) := by
  cases r <;> cases hi <;> decide

theorem tsHalf_address (r : TsReg) (hi : Bool) :
    (0x040 + 8 * r.index + (if hi then 4 else 0)) % 4 = 0 ∧ 0x040 + 8 * r.index + (if hi then 4 else 0) ≤ 0x1B7 := by
  cases r <;> cases hi <;> decide

theorem join64_lo (hi lo : Word) : (join64 hi lo).extractLsb' 0 32 = lo := BitVec.extractLsb'_append_eq_right

theorem join64_hi (hi lo : Word) : (join64 hi lo).extractLsb' 32 32 = hi := BitVec.extractLsb'_append_eq_left

/-- What a host write to half a timestamp register leaves: one register written, made valid (R26). -/
theorem writeTs_eq (s : State) (r : TsReg) (v : Word) (hi : Bool) :
    ∃ x, (if hi then writeTsHi s r v else writeTsLo s r v) = setTs s r x ∧
      x.extractLsb' 0 32 = (if hi then (hostTs s r).extractLsb' 0 32 else v) ∧
      x.extractLsb' 32 32 = (if hi then v else (hostTs s r).extractLsb' 32 32) := by
  cases hi
  · exact ⟨_, rfl, join64_lo _ _, join64_hi _ _⟩
  · exact ⟨_, rfl, join64_lo _ _, join64_hi _ _⟩

theorem step_hostWrite_tsHalf {s : State} {r : TsReg} {v : Word} {rest : List Input} {hi : Bool}
    (hIdle : s.phase = .idle)
    (hInputs : s.env.inputs = .hostWrite (0x040 + 8 * r.index + (if hi then 4 else 0)) v :: rest) :
    step s = .next (if hi then writeTsHi (withInputs s rest) r v else writeTsLo (withInputs s rest) r v) := by
  obtain ⟨hAligned, hRange⟩ := tsHalf_address r hi
  have hCmd : (if hi then Reg.tsHi r else .tsLo r) ≠ .cmd := by cases hi <;> nofun
  rw [step_hostWrite_reg hInputs hAligned hRange (regAt_tsHalf r hi) hCmd]
  cases hi <;> exact congrArg Host.Outcome.next (if_pos hIdle)

/-- Settles O56: each register by its place in the map and its write. -/
theorem hostWritesRegister : Obligations.HostWritesRegister := by
  refine ⟨fun s v rest hNotFatal hInputs => ?_, fun s v rest hIdle => ⟨fun hInputs => ?_, fun hInputs => ?_,
    fun hInputs => ?_⟩, fun s r v rest hi hIdle hInputs => ?_⟩
  · rw [step_hostWrite_reg (r := .ctrl) hInputs (by decide) (by decide) (by decide) nofun]
    exact congrArg Host.Outcome.next (if_neg hNotFatal)
  · rw [step_hostWrite_reg (r := .kRaw) hInputs (by decide) (by decide) (by decide) nofun]
    exact congrArg Host.Outcome.next (if_pos hIdle)
  · rw [step_hostWrite_reg (r := .pdoaRaw) hInputs (by decide) (by decide) (by decide) nofun,
      ← BitVec.setWidth_eq_extractLsb' (by decide)]
    exact congrArg Host.Outcome.next (if_pos hIdle)
  · rw [step_hostWrite_reg (r := .rxLen) hInputs (by decide) (by decide) (by decide) nofun,
      ← BitVec.setWidth_eq_extractLsb' (by decide)]
    exact congrArg Host.Outcome.next (if_pos hIdle)
  · obtain ⟨x, hWrite, hLo, hHi⟩ := writeTs_eq (withInputs s rest) r v hi
    refine ⟨_, (step_hostWrite_tsHalf hIdle hInputs).trans (congrArg Host.Outcome.next hWrite), rfl, ?_,
      fun q hq => TsFile.get_put_other _ _ hq, ?_⟩
    · exact congrArg TsSlot.valid (TsFile.get_put_same ..)
    · have hVal : tsVal (setTs (withInputs s rest) r x) r = x := congrArg TsSlot.value (TsFile.get_put_same ..)
      rw [hVal]
      exact ⟨hLo, hHi⟩

/-! Buffer words (R69). -/

theorem bufWord_address (b : Buf) {w : Nat} (hFits : 4 * w + 4 ≤ b.size) :
    (b.base + 4 * w) % 4 = 0 ∧ b.base + 4 * w ≤ 0x1B7 := by
  cases b <;> simp only [Buf.base, Buf.size] at * <;> omega

/-- A buffer word written where the phase lets it be (R50). -/
theorem writeReg_bufWord {s : State} (b : Buf) (hBlob : b = .blob → s.phase ≠ .fatal)
    (hOther : b ≠ .blob → s.phase = .idle) (v : Word) (a : Nat) :
    writeReg s v (.bufWord b a) = { s with mem := memSetWord s.mem a v } := by
  cases b with
  | blob => exact if_neg (hBlob rfl)
  | tx | rx => exact if_pos (hOther nofun)

theorem regRead_of_regAt {a : Nat} {r : Reg} (h : regAt a = some r) (s : State) : regRead s a = readReg s r := by
  rw [regRead, h]

theorem bytes32_getD (v : Word) {j : Nat} (hj : j < 4) : (bytes32 v).getD j 0 = v.extractLsb' (8 * j) 8 := by
  interval_cases j <;> rfl

/-- A word of a buffer reads as its four bytes, the first lowest. -/
theorem regRead_bufWord (s : State) (b : Buf) {w : Nat} (hFits : 4 * w + 4 ≤ b.size) :
    regRead s (b.base + 4 * w) = le32 (bufByte s.mem b (4 * w)) (bufByte s.mem b (4 * w + 1))
      (bufByte s.mem b (4 * w + 2)) (bufByte s.mem b (4 * w + 3)) := by
  rw [regRead_of_regAt (regAt_bufWord b hFits)]
  rfl

/-- Settles O57: the word is stored as the bytes of `bytes32`, which `le32` puts together again. -/
theorem hostWritesBufferWord : Obligations.HostWritesBufferWord := by
  intro s b w v rest hWf hFits hBlob hOther hInputs
  obtain ⟨hAligned, hRange⟩ := bufWord_address b hFits
  have hStep := step_hostWrite_reg hInputs hAligned hRange (regAt_bufWord b hFits) nofun
  rw [writeReg_bufWord (s := withInputs s rest) b hBlob hOther] at hStep
  have hBytes (j : Nat) (hj : j < 4) :
      bufByte (memWrite s.mem b (4 * w) (bytes32 v)) b (4 * w + j) = v.extractLsb' (8 * j) 8 := by
    rw [bufByte_memWrite_same hWf b (4 * w) (show j < (bytes32 v).length from hj), bytes32_getD v hj]
  refine ⟨_, hStep, rfl, hBytes, fun a ha => ?_, ?_⟩
  · refine (read_memWrite hWf b (4 * w) (bytes32 v) a).trans (if_neg ?_)
    rw [show (bytes32 v).length = 4 from rfl]
    omega
  · have h0 := hBytes 0 (by decide)
    have h1 := hBytes 1 (by decide)
    have h2 := hBytes 2 (by decide)
    have h3 := hBytes 3 (by decide)
    rw [regRead_bufWord _ b hFits]
    exact (congr (congr (congr (congrArg le32 h0) h1) h2) h3).trans (le32_byteOf v)

/-! What the registers read as (R20 to R45). -/

theorem regRead_of_unlisted {a : Nat} (h : ∀ r, regAt a = some r → r = .cmd) (s : State) : regRead s a = 0 := by
  rw [regRead]
  cases hReg : regAt a with
  | none => rfl
  | some r =>
    cases h r hReg
    rfl

theorem regTable_listed : ∀ p ∈ regTable, p.2 = .cmd ∨ ((0x004 ≤ p.1 ∧ p.1 < 0x034) ∨ (0x040 ≤ p.1 ∧ p.1 < 0x070) ∨
    (0x080 ≤ p.1 ∧ p.1 < 0x0A4) ∨ (0x0C0 ≤ p.1 ∧ p.1 < 0x0E4) ∨ (0x100 ≤ p.1 ∧ p.1 < 0x11C)) := by decide

theorem setWidth32_toNat {n : Nat} (v : BitVec n) (hn : n ≤ 32) : (v.setWidth 32).toNat = v.toNat := by
  rw [BitVec.toNat_setWidth, Nat.mod_eq_of_lt (v.isLt.trans_le (Nat.pow_le_pow_right (by decide) hn))]

theorem regAt_errCnt (k : ErrKind) : regAt (0x100 + 4 * k.code) = some (.errCnt k) := by cases k <;> decide

theorem ctrlWord_fields (b : Bool) :
    (0#31 ++ BitVec.ofBool b : Word).getLsbD 0 = b ∧ (0#31 ++ BitVec.ofBool b : Word).extractLsb' 1 31 = 0 := by
  cases b <;> decide

theorem cfgWord_fields (c : Config) :
    ((cfgWord c).getLsbD 0 = true ↔ c.role = .responder) ∧
    (cfgWord c).extractLsb' 1 2 =
      (match c.variant with | .singleSided => 0 | .doubleSided => 1 | .doubleSidedSDC => 2) ∧
    (cfgWord c).getLsbD 3 = c.clkoffEn ∧ (cfgWord c).getLsbD 4 = c.pdoaEn ∧ (cfgWord c).getLsbD 5 = c.durEn ∧
    (cfgWord c).extractLsb' 6 26 = 0 := by
  unfold cfgWord
  generalize c.durEn = d, c.pdoaEn = p, c.clkoffEn = k, c.variant = v, c.role = r
  revert d p k
  cases r <;> cases v <;> decide

theorem tsvWord_fields (t : TsFile) :
    (∀ r : TsReg, (tsvWord t).getLsbD r.index = (t.get r).valid) ∧ (tsvWord t).extractLsb' 6 26 = 0 := by
  obtain ⟨⟨_, v0⟩, ⟨_, v1⟩, ⟨_, v2⟩, ⟨_, v3⟩, ⟨_, v4⟩, ⟨_, v5⟩⟩ := t
  refine ⟨fun r => ?_, ?_⟩
  · simp only [tsvWord]
    cases r <;> simp only [TsFile.get] <;> revert v0 v1 v2 v3 v4 v5 <;> decide
  · simp only [tsvWord]
    revert v0 v1 v2 v3 v4 v5
    decide

theorem hi32_append_trunc32 (v : DWord) : hi32 v ++ trunc32 v = v := by
  rw [hi32, trunc32, BitVec.extractLsb'_append_extractLsb'_eq_extractLsb' (by rfl)]
  exact BitVec.extractLsb'_eq_self

/-! What is no transaction (R20, R70). -/

theorem onPort_misaligned {a : Nat} (t : Host.Outcome State Fault Refusal) (h : a % 4 ≠ 0) :
    onPort a t = .refused (.notATransaction a) := if_pos h

theorem onPort_outside {a : Nat} (t : Host.Outcome State Fault Refusal) (hAligned : a % 4 = 0) (h : 0x1B7 < a) :
    onPort a t = .fault (.outsidePort a) := by
  rw [onPort, if_neg (not_not_intro hAligned), if_pos h]

/-- Settles O58: the port's two stops, the addresses the map does not list, and each register read where the map has it. -/
theorem portStopsAndReads : Obligations.PortStopsAndReads := by
  refine ⟨fun s a rest hInputs => ⟨step_hostRead hInputs, fun h => ?_, fun hAligned h => ?_⟩,
    fun s a v rest hInputs => ⟨fun h => ?_, fun hAligned h => ?_⟩, fun s a hAddr => ?_, fun s => ?_⟩
  · rw [step_of_input hInputs, takeInput, hostRead, onPort_misaligned _ h]
  · rw [step_of_input hInputs, takeInput, hostRead, onPort_outside _ hAligned h]
  · rw [step_of_input hInputs, takeInput, hostWrite, onPort_misaligned _ h]
  · rw [step_of_input hInputs, takeInput, hostWrite, onPort_outside _ hAligned h]
  · refine regRead_of_unlisted (fun r hReg => ?_) s
    obtain ⟨b, -, hHolds⟩ | hTable := regAt_cases hReg
    · rw [Buf.holds_iff] at hHolds
      cases b <;> simp only [Buf.base, Buf.size] at hHolds <;> omega
    · obtain hCmd | hListed := regTable_listed _ hTable
      · exact hCmd
      · simp only at hListed
        omega
  · have hRead {a : Nat} {r : Reg} (h : regAt a = some r) : regRead s a = readReg s r := regRead_of_regAt h s
    have hBits {n a : Nat} {r : Reg} {v : BitVec n} (h : regAt a = some r) (hVal : readReg s r = v.setWidth 32)
        (hn : n ≤ 32) : (regRead s a).toNat = v.toNat := by
      rw [hRead h, hVal, setWidth32_toNat v hn]
    have hHalves {lo hi : Nat} {rl rh : Reg} {v : DWord} (hl : regAt lo = some rl) (hh : regAt hi = some rh)
        (hLo : readReg s rl = trunc32 v) (hHi : readReg s rh = hi32 v) : regRead s hi ++ regRead s lo = v := by
      rw [hRead hl, hRead hh, hLo, hHi, hi32_append_trunc32]
    refine ⟨?_, ?_, hBits (r := .seq) (by decide) rfl (by decide), ?_, hRead (r := .kRaw) (by decide),
      hBits (r := .pdoaRaw) (by decide) rfl (by decide), hRead (r := .dlyTime) (by decide),
      hBits (r := .rxErrMask) (by decide) rfl (by decide), hBits (r := .fatalCode) (by decide) rfl (by decide),
      hBits (r := .txLen) (by decide) rfl (by decide), hBits (r := .rxLen) (by decide) rfl (by decide),
      fun r => ⟨hRead (regAt_tsLo r), hRead (regAt_tsHi r)⟩,
      ⟨hHalves (rl := .tofDtuLo) (rh := .tofDtuHi) (by decide) (by decide) rfl rfl,
        hHalves (rl := .tofSLo) (rh := .tofSHi) (by decide) (by decide) rfl rfl,
        hHalves (rl := .distMLo) (rh := .distMHi) (by decide) (by decide) rfl rfl,
        hHalves (rl := .durMsLo) (rh := .durMsHi) (by decide) (by decide) rfl rfl⟩,
      hRead (r := .pdoaDeg) (by decide),
      ⟨hRead (r := .key0) (by decide), hRead (r := .key1) (by decide), hRead (r := .key2) (by decide),
        hRead (r := .key3) (by decide)⟩,
      ⟨hRead (r := .iv0) (by decide), hRead (r := .iv1) (by decide), hRead (r := .iv2) (by decide),
        hRead (r := .iv3) (by decide)⟩, ?_, fun k => hRead (regAt_errCnt k), fun b w => regRead_bufWord s b⟩
    · rw [hRead (r := .ctrl) (by decide)]
      exact ctrlWord_fields s.auto
    · rw [hRead (r := .cfg) (by decide)]
      exact cfgWord_fields s.cfg
    · rw [hRead regAt_tsv]
      exact tsvWord_fields s.ts
    · rw [hRead (r := .addr) (by decide)]
      exact ⟨BitVec.extractLsb'_append_eq_right, BitVec.extractLsb'_append_eq_left⟩

end Sys2Proof.Machine

/-! SUPPORT. The sequencer, state by state (spec/44_sequencer.md R201 to R208, R215 to R217, R284 to R293): the start of a
cycle, the send wait steps, and the receive wait steps that end in an error. -/

namespace Sys2Proof.Machine

/-! The start of a cycle (R201 to R208). -/

/-- RUN, and the sequencer's turn in Idle under AUTO or not, when the cycle-start step leaves `t` (R201, R203). -/
theorem run_and_turn_of_cycleStart {s t : State} (hIdle : s.phase = .idle) (hStart : cycleStart s = .ok t)
    (hFault : t.cmdFault = s.cmdFault) :
    exec .run s = .next { t with cmdFault := .noFault } ∧
      (s.auto = true → seqStep s = { { t with cmdFault := .noFault } with cmdFault := s.cmdFault }) ∧
      (s.auto = false → seqStep s = s) := by
  refine ⟨exec_of_effect (i := .run) hIdle hStart, fun hAuto => ?_, fun hAuto => ?_⟩
  · rw [seqStep_idle hIdle, if_pos hAuto, hStart, ← hFault]
    rfl
  · rw [seqStep_idle hIdle, if_neg (by simp [hAuto])]

/-- Settles O34: the head of the cycle start, then the Poll built, handed over and sent. -/
theorem runStartsInitiatorCycle : Obligations.RunStartsInitiatorCycle := by
  intro s hIdle hWf hRole
  have hStart : cycleStart s = .ok (pollSent (cycleHead s)) := by rw [cycleStart_eq, hRole]
  have hWfHead : (cycleHead s).mem.wf = true := cycleHead_mem s ▸ hWf
  have hHeader := headerAt_built .poll hWfHead
  have hSeq := built_seq .poll hWfHead
  have hZeros (i : Nat) (hFrom : 10 ≤ i) (hi : i < 24) :=
    built_zeros .poll hWfHead (by simp only [frameLen]; omega) hi
  have hOutside := built_sameOutside .poll hWfHead
  rw [cycleHead_cfg] at hHeader
  rw [cycleHead_mem] at hOutside
  have hHead := cycleHead_eq s
  rw [hRole] at hHead
  unfold pollSent at hStart
  generalize (built .poll (cycleHead s)).mem = m at hStart hHeader hSeq hZeros hOutside
  rw [hHead] at hStart hHeader hSeq
  obtain ⟨hRun, hTurn⟩ := run_and_turn_of_cycleStart hIdle hStart rfl
  exact ⟨_, hRun, rfl, rfl, clearTs_tsValid s, rfl, rfl, rfl, rfl, rfl, hHeader, hSeq, hZeros, hOutside, rfl, rfl, hTurn⟩

/-- Settles O35: the head of the cycle start, then the receiver armed. -/
theorem runStartsResponderCycle : Obligations.RunStartsResponderCycle := by
  intro s hIdle hRole
  have hStart : cycleStart s = .ok (armForPoll (cycleHead s)) := by rw [cycleStart_eq, hRole]
  have hHead := cycleHead_eq s
  rw [hRole] at hHead
  rw [hHead] at hStart
  obtain ⟨hRun, hTurn⟩ := run_and_turn_of_cycleStart hIdle hStart rfl
  refine ⟨_, hRun, rfl, rfl, clearTs_tsValid s, rfl, rfl, rfl, rfl, rfl, ?_, rfl, hTurn⟩
  simp [armForPoll, radioArmRx, radioSetRxParams, call]

/-! The send wait steps (R205, R215, R217). -/

/-- A send wait step when the status shows TX_DONE. -/
theorem txWait_done {s : State} {st : Word} {rest : List Word} (hStatus : s.env.answers.status = st :: rest)
    (hDone : st.getLsbD 0 = true) (next : State → State) : txWait s next = next (txDoneState s rest) := by
  rw [txWait, radioWaitStatus_return hStatus (and_txDoneMask_of_done hDone)]
  rfl

theorem txWait_blocked {s : State} (hStatus : s.env.answers.status = []) (next : State → State) :
    txWait s next = s := by
  rw [txWait, radioWaitStatus, hStatus]

theorem responseSent_eq (s : State) : responseSent s =
    { s with
      phase := if s.cfg.variant ≠ .singleSided then .awaitFinal else .idle
      ts := if s.cfg.variant ≠ .singleSided then s.ts else (clearTs s).ts } := by
  unfold responseSent
  by_cases hVariant : s.cfg.variant = .singleSided
  · simp [hVariant, endCycle, clearTs]
  · simp [hVariant]

/-- What each send phase does after TX_DONE. -/
def afterSend (p : Phase) (s : State) : State :=
  match p with
  | .sendPoll => { s with phase := .awaitResponse }
  | .sendResponse => responseSent s
  | _ => endCycle s

theorem seqStep_sending {s : State} (h : s.phase.Sending) : seqStep s = txWait s (afterSend s.phase) := by
  obtain h | h | h := h <;> rw [seqStep, h] <;> rfl

/-- Settles O43: each send phase is a wait for TX_DONE and then `afterSend`. -/
theorem txDoneAdvancesSeq : Obligations.TxDoneAdvancesSeq := by
  refine fun s hPhase => ⟨fun st rest hStatus hDone => ?_, fun hStatus => ?_⟩
  · rw [seqStep_sending hPhase, txWait_done hStatus hDone, txDoneState_eq]
    obtain h | h | h := hPhase
    · simp [h, afterSend, txDoneMask]
    · simp [h, afterSend, txDoneMask, responseSent_eq, clearTs]
    · simp [h, afterSend, txDoneMask, endCycle, clearTs]
  · rw [seqStep_sending hPhase, txWait_blocked hStatus]

/-! The receive wait steps (R206, R211, R216, R221). -/

/-- The message a receive phase waits for. -/
def awaited : Phase → Msg
  | .awaitPoll => .poll
  | .awaitResponse => .resp
  | _ => .final

/-- What a receive phase does with a frame that matches. -/
def afterFrame : Phase → State → Except CmdFault State
  | .awaitPoll => gotPoll
  | .awaitResponse => gotResponse
  | _ => gotFinal

theorem seqStep_receiving {s : State} (h : s.phase.Receiving) :
    seqStep s = rxWait (awaited s.phase) (afterFrame s.phase) s := by
  obtain h | h | h := h <;> rw [seqStep, h] <;> rfl

theorem rxWait_bad (m : Msg) (go : State → Except CmdFault State) {s : State} {st : Word} {rest : List Word}
    {k : ErrKind} {mask : Byte} (hStatus : s.env.answers.status = st :: rest) (hMask : st &&& rxMask ≠ 0)
    (hBad : classify st = .bad k mask) : rxWait m go s = raiseErr (rxStatusState s st rest) k mask := by
  simp only [rxWait, radioWaitStatus_return hStatus hMask, hBad]
  rfl

/-- A bad status keeps its mask for RxError alone (R206). -/
theorem classify_bad {st : Word} (hNotGood : st.getLsbD 1 = false) :
    ∃ mask, classify st = .bad
        (if st.getLsbD 2 then .rxTimeout else if st.getLsbD 3 then .preambleNotDetected else .rxError) mask ∧
      (st.getLsbD 2 = false → st.getLsbD 3 = false → mask = st.extractLsb' 8 8) := by
  cases h2 : st.getLsbD 2 with
  | true => exact ⟨0, by simp only [classify, hNotGood, h2]; rfl, nofun⟩
  | false =>
    cases h3 : st.getLsbD 3 with
    | true => exact ⟨0, by simp only [classify, hNotGood, h2, h3]; rfl, fun _ => nofun⟩
    | false => exact ⟨st.extractLsb' 8 8, by simp only [classify, hNotGood, h2, h3]; rfl, fun _ _ => rfl⟩

theorem raiseErr_eq (s : State) (k : ErrKind) (mask : Byte) : raiseErr s k mask =
    { s with
      phase := .idle, ts := (clearTs s).ts, errCnt := s.errCnt.bump k
      rxErrMask := if k = .rxError then mask else s.rxErrMask } := rfl

/-- Settles O37: the status classified, its bits cleared, and the error entered. -/
theorem badStatusEntersError : Obligations.BadStatusEntersError := by
  intro s st rest k hPhase hStatus hMask hNotGood hKind
  obtain ⟨mask, hBad, hKept⟩ := classify_bad hNotGood
  rw [← hKind] at hBad
  have hRxErr : k = .rxError → mask = st.extractLsb' 8 8 := by
    rw [hKind]
    intro hRxError
    split_ifs at hRxError with h2 h3
    exact hKept (Bool.eq_false_of_not_eq_true h2) (Bool.eq_false_of_not_eq_true h3)
  have hSameMask : (if k = .rxError then mask else s.rxErrMask) =
      if k = .rxError then st.extractLsb' 8 8 else s.rxErrMask := ite_congr rfl hRxErr fun _ => rfl
  rw [seqStep_receiving hPhase, rxWait_bad _ _ hStatus hMask hBad, raiseErr_eq, rxStatusState_eq, hSameMask]
  rfl

/-- A receive wait step that finds a bad STS ends before the frame is read (R211, R285). -/
theorem rxWait_badSts (m : Msg) (go : State → Except CmdFault State) {s : State} {st : Word} {rest : List Word}
    {q : StsAnswer} {qs : List StsAnswer} (hStatus : s.env.answers.status = st :: rest) (hGood : st.getLsbD 1 = true)
    (hSts : s.env.answers.sts = q :: qs) (hBad : stsAccepted q = false) :
    rxWait m go s = raiseErr (radioReadSts (rxStatusState s st rest)).2 .badStsQuality 0 := by
  have hRead : (radioReadSts (rxStatusState s st rest)).1 = q := by
    simp [rxStatusState_eq, radioReadSts, nextAnswer, hSts]
  have hEnd : rxGood m go (rxStatusState s st rest) =
      .ok (raiseErr (radioReadSts (rxStatusState s st rest)).2 .badStsQuality 0) := by
    rw [rxGood, hRead, hBad]
    rfl
  simp only [rxWait, radioWaitStatus_return hStatus (and_rxMask_of_good hGood), classify_good hGood]
  exact congrArg (seqOutcome s) hEnd

theorem stsAccepted_iff (q : StsAnswer) : stsAccepted q = true ↔ q.ok = true ∧ 0 ≤ q.quality.toInt := by
  simp [stsAccepted]

/-- Settles O38. -/
theorem badStsEntersError : Obligations.BadStsEntersError := by
  intro s st rest q qs hPhase hStatus hGood hSts hBad
  have hRefused : stsAccepted q = false := by
    rw [Bool.eq_false_iff, ne_eq, stsAccepted_iff]
    rintro ⟨hOk, hQuality⟩
    obtain h | h := hBad
    · simp [hOk] at h
    · omega
  rw [seqStep_receiving hPhase, rxWait_badSts _ _ hStatus hGood hSts hRefused, raiseErr_eq]
  simp [radioReadSts, rxStatusState_eq, nextAnswer, hSts, call, withAnswers, rxMask, clearTs]

/-! The frame in RXBUF (R143, R257). -/

section
variable (s : State) (st : Word) (rest : List Word) (qs : List StsAnswer) {f : List Byte} (fs : List (List Byte))

theorem rxLen_frameInHand (hLen : f.length ≤ 1023) : (frameInHand s st rest qs f fs).rxLen.toNat = f.length := by
  rw [frameInHand, BitVec.toNat_ofNat, Nat.mod_eq_of_lt (by omega)]

theorem bufByte_frameInHand (hWf : s.mem.wf = true) {i : Nat} (hi : i < 24) :
    bufByte (frameInHand s st rest qs f fs).mem .rx i = f.getD i 0 := bufByte_rxBytes hWf f hi

theorem sameOutside_frameInHand (hWf : s.mem.wf = true) :
    sameOutside .rx s.mem (frameInHand s st rest qs f fs).mem := fun a ha => by
  refine (read_memWrite hWf .rx 0 (rxBytes f) a).trans (if_neg ?_)
  rw [rxBytes_length]
  exact fun h => by simp [(Buf.holds_iff .rx a).mpr h] at ha

theorem frameMatches_frameInHand (hWf : s.mem.wf = true) (hLen : f.length ≤ 1023) (m : Msg) :
    frameMatches m (frameInHand s st rest qs f fs) = true ↔
      f.length = frameLen m ∧ ∀ i, i < 10 → i ≠ 2 → f.getD i 0 = (template s.cfg s.mat m).getD i 0 := by
  rw [frameMatches_iff, rxLen_frameInHand s st rest qs fs hLen]
  refine and_congr_right fun _ => forall₂_congr fun i hi => ?_
  rw [bufByte_frameInHand s st rest qs fs hWf (by omega)]
  rfl

end

/-- Settles O39: the frame is in RXBUF when its length or a header byte is found wrong. -/
theorem badHeaderEntersError : Obligations.BadHeaderEntersError := by
  intro s st rest q qs f fs m hWf hPhase hStatus hGood hSts hOk hQuality hFrame hLen hWrong t
  have hExists : msgExists s.cfg m = true := by
    obtain ⟨-, rfl⟩ | ⟨-, rfl⟩ | ⟨-, rfl, hVariant⟩ := hPhase
    · exact msgExists_of nofun
    · exact msgExists_of nofun
    · exact msgExists_of fun _ => hVariant
  obtain ⟨hReceiving, hAwaited⟩ : s.phase.Receiving ∧ awaited s.phase = m := by
    obtain ⟨h, rfl⟩ | ⟨h, rfl⟩ | ⟨h, rfl, -⟩ := hPhase <;> simp [Phase.Receiving, h, awaited]
  have hMismatch : ¬ frameMatches m (frameInHand s st rest qs f fs) = true := by
    rw [frameMatches_frameInHand s st rest qs fs hWf hLen]
    rintro ⟨hSameLen, hSame⟩
    obtain h | ⟨i, hi, hSeq, h⟩ := hWrong
    · exact h hSameLen
    · exact h (hSame i hi hSeq)
  have hTurn : t = raiseErr { frameInHand s st rest qs f fs with vok := false } .badFrameHeader 0 := by
    calc t = rxWait m (afterFrame s.phase) s := hAwaited ▸ seqStep_receiving hReceiving
      _ = _ := rxWait_frameInHand m _ hStatus hGood hSts ((stsAccepted_iff q).mpr ⟨hOk, hQuality⟩) hFrame hLen hExists
      _ = _ := if_neg hMismatch
  rw [hTurn]
  exact ⟨rfl, rxLen_frameInHand s st rest qs fs hLen, fun i => bufByte_frameInHand s st rest qs fs hWf,
    sameOutside_frameInHand s st rest qs fs hWf⟩

end Sys2Proof.Machine

/-! SUPPORT. The good receive steps that lead to Compute (spec/44_sequencer.md R211, R221): the frame validated, the
radio's times stamped, the timestamps of the frame decoded and the optional readings made. -/

namespace Sys2Proof.Machine

/-! A frame that matches. -/

/-- The state in which a receive step goes on: the frame in RXBUF, VOK set (R143, R211). -/
def validated (s : State) (st : Word) (rest : List Word) (qs : List StsAnswer) (f : List Byte)
    (fs : List (List Byte)) : State :=
  { frameInHand s st rest qs f fs with vok := true }

section
variable {s : State} {st : Word} {rest : List Word} {q : StsAnswer} {qs : List StsAnswer} {f : List Byte}
  {fs : List (List Byte)} {m : Msg}

/-- With a good status, a good STS and a frame of the right length and header, the rest of the step decides. -/
theorem seqStep_validated (hReceiving : s.phase.Receiving) (hAwaited : awaited s.phase = m)
    (hExists : msgExists s.cfg m = true) (hWf : s.mem.wf = true) (hStatus : s.env.answers.status = st :: rest)
    (hGood : st.getLsbD 1 = true) (hSts : s.env.answers.sts = q :: qs) (hOk : q.ok = true)
    (hQuality : 0 ≤ q.quality.toInt) (hFrame : s.env.answers.frame = f :: fs) (hLen : f.length = frameLen m)
    (hHeader : (comparedOffsets.all fun i => f.getD i 0 = (template s.cfg s.mat m).getD i 0) = true) :
    seqStep s = seqOutcome s (afterFrame s.phase (validated s st rest qs f fs)) := by
  have hShort : f.length ≤ 1023 := by
    rw [hLen]
    exact (frameLen_le m).trans (by decide)
  have hMatch : frameMatches m (frameInHand s st rest qs f fs) = true := by
    rw [frameMatches_frameInHand s st rest qs fs hWf hShort]
    refine ⟨hLen, fun i hi hSeq => ?_⟩
    exact of_decide_eq_true (List.all_eq_true.mp hHeader i ((mem_comparedOffsets i).mpr ⟨hi, hSeq⟩))
  calc seqStep s = rxWait m (afterFrame s.phase) s := hAwaited ▸ seqStep_receiving hReceiving
    _ = _ := rxWait_frameInHand m _ hStatus hGood hSts ((stsAccepted_iff q).mpr ⟨hOk, hQuality⟩) hFrame hShort hExists
    _ = _ := if_pos hMatch

end

section
variable (s : State) (st : Word) (rest : List Word) (qs : List StsAnswer) {f : List Byte} (fs : List (List Byte))

theorem validated_eq {n : Nat} (hLen : f.length = n) :
    validated s st rest qs f fs = { s with
      mem := memWrite s.mem .rx 0 (rxBytes f), rxLen := BitVec.ofNat 10 n, vok := true
      env := { s.env with
        answers := { s.env.answers with status := rest, sts := qs, frame := fs }
        calls := s.env.calls ++ [.waitStatus rxMask] ++ [.clearStatus (st &&& rxMask)] ++ [.readStsQuality] ++
          [.readFrame] } } := by
  subst hLen
  rfl

theorem rxReadable_validated (hLen : f.length ≤ 24) : rxReadable (validated s st rest qs f fs) = f.length := by
  have hRxLen : (validated s st rest qs f fs).rxLen.toNat = f.length :=
    rxLen_frameInHand s st rest qs fs (hLen.trans (by decide))
  rw [rxReadable, hRxLen]
  exact min_eq_left hLen

theorem decField_validated (hWf : s.mem.wf = true) {off : Nat} (hOff : off + 4 ≤ 24) :
    decField (validated s st rest qs f fs) off =
      le32 (f.getD off 0) (f.getD (off + 1) 0) (f.getD (off + 2) 0) (f.getD (off + 3) 0) := by
  have hByte (i : Nat) (hi : i < 24) : bufByte (validated s st rest qs f fs).mem .rx i = f.getD i 0 :=
    bufByte_frameInHand s st rest qs fs hWf hi
  rw [decField, hByte off (by omega), hByte (off + 1) (by omega), hByte (off + 2) (by omega), hByte (off + 3) (by omega)]

end

/-! The timestamps of a frame (R100, R131). -/

/-- The timestamp file with the fields of RXBUF decoded into the registers a frame names. -/
def decoded (s : State) (fields : List (TsReg × Nat)) : TsFile :=
  fields.foldl (fun t p => t.put p.1 ⟨(decField s p.2).setWidth 64, true⟩) s.ts

theorem extractEffect_eq {s : State} {fields : List (TsReg × Nat)} (h : ∀ p ∈ fields, p.2 + 4 ≤ rxReadable s) :
    extractEffect s fields = .ok { s with ts := decoded s fields } := by
  induction fields generalizing s with
  | nil => rfl
  | cons p fields ih =>
    have hFirst := (dec32Effect_ok_iff p.1 p.2 s _).mpr ⟨h p (List.mem_cons_self ..), rfl⟩
    have hRest := ih (s := setTs s p.1 ((decField s p.2).setWidth 64)) fun p hp => h p (List.mem_cons_of_mem _ hp)
    rw [extractEffect, hFirst]
    exact hRest

/-- The fields of a message lie in front of its checksum (R106). -/
theorem embedded_inFrame (m : Msg) : ∀ p ∈ embedded m, p.2 + 6 ≤ frameLen m := by cases m <;> decide

theorem extractEffect_embedded {s : State} (m : Msg) (hLen : frameLen m ≤ rxReadable s) :
    extractEffect s (embedded m) = .ok { s with ts := decoded s (embedded m) } :=
  extractEffect_eq fun p hp => by
    have hInFrame := embedded_inFrame m p hp
    omega

/-! The radio's times (R258). -/

theorem stampTx_of_answer {s : State} {a : Time40} {as : List Time40} (h : s.env.answers.txTime = a :: as) (r : TsReg) :
    stampTx s r = { s with
      ts := s.ts.put r ⟨a.setWidth 64, true⟩
      env := { s.env with
        answers := { s.env.answers with txTime := as }, calls := s.env.calls ++ [.readTxTimestamp] } } := by
  simp [stampTx, radioReadTxTime, nextAnswer, h, setTs, call, withAnswers]

theorem stampRx_of_answer {s : State} {b : Time40} {bs : List Time40} (h : s.env.answers.rxTime = b :: bs) (r : TsReg) :
    stampRx s r = { s with
      ts := s.ts.put r ⟨b.setWidth 64, true⟩
      env := { s.env with
        answers := { s.env.answers with rxTime := bs }, calls := s.env.calls ++ [.readRxTimestamp] } } := by
  simp [stampRx, radioReadRxTime, nextAnswer, h, setTs, call, withAnswers]

theorem stampBoth_of_answers {s : State} {a b : Time40} {as bs : List Time40} (hTx : s.env.answers.txTime = a :: as)
    (hRx : s.env.answers.rxTime = b :: bs) (r q : TsReg) :
    stampRx (stampTx s r) q = { s with
      ts := (s.ts.put r ⟨a.setWidth 64, true⟩).put q ⟨b.setWidth 64, true⟩
      env := { s.env with
        answers := { s.env.answers with txTime := as, rxTime := bs }
        calls := s.env.calls ++ [.readTxTimestamp] ++ [.readRxTimestamp] } } := by
  rw [stampTx_of_answer hTx]
  exact stampRx_of_answer (b := b) (bs := bs) (by exact hRx) q

/-! A good Response (R211). -/

/-- The timestamp file an Initiator computes from: the radio's two times, the Response's two fields. -/
def responseTs (s : State) (a b : Time40) : TsFile :=
  decoded { s with ts := (s.ts.put .pollTx ⟨a.setWidth 64, true⟩).put .respRx ⟨b.setWidth 64, true⟩ } (embedded .resp)

/-- A good AwaitResponse step as a whole, with the radio's times at hand. -/
theorem gotResponse_eq {s : State} {a b : Time40} {as bs : List Time40} (hTx : s.env.answers.txTime = a :: as)
    (hRx : s.env.answers.rxTime = b :: bs) (hLen : frameLen .resp ≤ rxReadable s) :
    ∃ k p ans n, gotResponse s = .ok { s with
      phase := .compute, ts := responseTs s a b, kRaw := k, pdoaRaw := p
      env := { s.env with
        answers := ans, free := n
        calls := s.env.calls ++ [.readTxTimestamp] ++ [.readRxTimestamp] ++
          (if s.cfg.clkoffEn then [.readClockOffset] else []) ++ (if s.cfg.pdoaEn then [.readPdoa] else []) } } ∧
      (s.cfg.clkoffEn = false → k = 0) ∧
      (s.cfg.clkoffEn = true → ∀ x xs, s.env.answers.clockOffset = x :: xs → k = x) ∧
      (s.cfg.pdoaEn = false → p = s.pdoaRaw) ∧
      (s.cfg.pdoaEn = true → ∀ x xs, s.env.answers.pdoa = x :: xs → p = x) := by
  unfold gotResponse
  rw [stampBoth_of_answers hTx hRx, extractEffect_embedded .resp (by exact hLen)]
  simp only [bind, Except.bind, pure, Except.pure]
  generalize hExtracted : ({ s with ts := _, env := _ } : State) = u
  obtain ⟨k, ans, n, hClock, hOff, hOn, hPdoaLeft⟩ := readClock_eq u
  obtain ⟨p, ans', n', hPdoa, hPdoaOff, hPdoaOn⟩ := readPdoa_eq (readClock u)
  rw [hClock] at hPdoa hPdoaOff hPdoaOn
  rw [hClock, hPdoa]
  subst hExtracted
  exact ⟨k, p, ans', n', rfl, hOff, hOn, hPdoaOff, fun hEn x xs hx => hPdoaOn hEn x xs (hPdoaLeft.trans hx)⟩

/-- Settles O40: the frame validated, then `gotResponse_eq`. -/
theorem goodResponseFillsTimestamps : Obligations.GoodResponseFillsTimestamps := by
  intro s st rest q qs f fs a b as bs hPhase hWf hStatus hGood hSts hOk hQuality hFrame hLen hHeader hTx hRx t
  have hStep : seqStep s = _ := seqStep_validated (m := .resp) (.inr (.inl hPhase)) (by rw [hPhase]; rfl)
    (msgExists_of nofun) hWf hStatus hGood hSts hOk hQuality hFrame hLen hHeader
  have hReadable := rxReadable_validated s st rest qs fs (f := f) (by omega)
  obtain ⟨k, p, ans, n, hGot, hOff, hOn, hPdoaOff, hPdoaOn⟩ :=
    gotResponse_eq (s := validated s st rest qs f fs) hTx hRx (by rw [hReadable, hLen]; rfl)
  have hPollRx := decField_validated s st rest qs fs (f := f) hWf (off := 10) (by decide)
  have hRespTx := decField_validated s st rest qs fs (f := f) hWf (off := 14) (by decide)
  rw [hPhase, afterFrame, hGot, seqOutcome] at hStep
  have hTurn : t = _ := hStep
  have hBytes (i : Nat) (hi : i < 24) := bufByte_frameInHand s st rest qs fs (f := f) hWf hi
  have hOutside := sameOutside_frameInHand s st rest qs fs (f := f) hWf
  rw [hTurn]
  refine ⟨?_, ?_, rfl, rfl, ?_, ?_, rfl, rfl, hOff, hOn, hPdoaOff, hPdoaOn, hBytes, hOutside, ?_⟩
  · rw [validated_eq s st rest qs fs hLen]
    rfl
  · rfl
  · rw [← hPollRx]
    rfl
  · rw [← hRespTx]
    rfl
  · rw [validated_eq s st rest qs fs hLen]
    simp [rxMask]

/-! A good Final (R221). -/

/-- The timestamp file a Responder computes from: the radio's time, the Final's three fields, the two it held. -/
def finalTs (s : State) (b : Time40) : TsFile :=
  decoded { s with ts := s.ts.put .finalRx ⟨b.setWidth 64, true⟩ } (embedded .final)

/-- A good AwaitFinal step as a whole, with the radio's time at hand. -/
theorem gotFinal_eq {s : State} {b : Time40} {bs : List Time40} (hRx : s.env.answers.rxTime = b :: bs)
    (hLen : frameLen .final ≤ rxReadable s) :
    ∃ p ans n, gotFinal s = .ok { s with
      phase := .compute, ts := finalTs s b, pdoaRaw := p
      env := { s.env with
        answers := ans, free := n
        calls := s.env.calls ++ [.readRxTimestamp] ++ (if s.cfg.pdoaEn then [.readPdoa] else []) } } ∧
      (s.cfg.pdoaEn = false → p = s.pdoaRaw) ∧
      (s.cfg.pdoaEn = true → ∀ x xs, s.env.answers.pdoa = x :: xs → p = x) := by
  unfold gotFinal
  rw [stampRx_of_answer hRx, extractEffect_embedded .final (by exact hLen)]
  simp only [bind, Except.bind, pure, Except.pure]
  generalize hExtracted : ({ s with ts := _, env := _ } : State) = u
  obtain ⟨p, ans, n, hPdoa, hPdoaOff, hPdoaOn⟩ := readPdoa_eq u
  rw [hPdoa]
  subst hExtracted
  exact ⟨p, ans, n, rfl, hPdoaOff, hPdoaOn⟩

/-- Settles O42: the frame validated, then `gotFinal_eq`. -/
theorem goodFinalFillsTimestamps : Obligations.GoodFinalFillsTimestamps := by
  intro s st rest q qs f fs b bs hPhase hWf hVariant hHeld hStatus hGood hSts hOk hQuality hFrame hLen hHeader hRx t
  have hStep : seqStep s = _ := seqStep_validated (m := .final) (.inr (.inr hPhase)) (by rw [hPhase]; rfl)
    (msgExists_of fun _ => hVariant) hWf hStatus hGood hSts hOk hQuality hFrame hLen hHeader
  have hReadable := rxReadable_validated s st rest qs fs (f := f) (by omega)
  obtain ⟨p, ans, n, hGot, hPdoaOff, hPdoaOn⟩ :=
    gotFinal_eq (s := validated s st rest qs f fs) hRx (by rw [hReadable, hLen]; rfl)
  have hPollTx := decField_validated s st rest qs fs (f := f) hWf (off := 10) (by decide)
  have hRespRx := decField_validated s st rest qs fs (f := f) hWf (off := 14) (by decide)
  have hFinalTx := decField_validated s st rest qs fs (f := f) hWf (off := 18) (by decide)
  rw [hPhase, show afterFrame .awaitFinal = gotFinal from rfl, hGot, seqOutcome] at hStep
  have hTurn : t = _ := hStep
  have hBytes (i : Nat) (hi : i < 24) := bufByte_frameInHand s st rest qs fs (f := f) hWf hi
  have hOutside := sameOutside_frameInHand s st rest qs fs (f := f) hWf
  rw [hTurn]
  refine ⟨?_, ?_, rfl, rfl, rfl, ?_, ?_, ?_, hPdoaOff, hPdoaOn, hBytes, hOutside, ?_⟩
  · rw [validated_eq s st rest qs fs hLen]
    rfl
  · rw [tsAllValid_iff] at hHeld ⊢
    intro r hr
    cases r with
    | pollRx => exact hHeld .pollRx (by decide)
    | respTx => exact hHeld .respTx (by decide)
    | pollTx | respRx | finalTx | finalRx => rfl
  · rw [← hPollTx]
    rfl
  · rw [← hRespRx]
    rfl
  · rw [← hFinalTx]
    rfl
  · rw [validated_eq s st rest qs fs hLen]
    simp [rxMask]

end Sys2Proof.Machine

/-! SUPPORT. The steps that answer with a delayed transmission, and the compute steps (spec/44_sequencer.md R212 to R216,
R222). -/

namespace Sys2Proof.Machine

/-! A delayed transmission (R214, R216, R287). -/

/-- What a delayed transmission leaves after the radio's answer: the next phase, or DelayedTxTooLate. -/
def sentDelayed (s : State) (next : Phase) (a : TxAnswer) : State :=
  { s with
    phase := if a = .ok then next else .idle
    ts := if a = .ok then s.ts else (clearTs s).ts
    errCnt := if a = .ok then s.errCnt else s.errCnt.bump .delayedTxTooLate }

theorem sendDelayed_eq_sentDelayed (s : State) (x : Bool) (next : Phase) : sendDelayed s x next =
    sentDelayed (radioArmTx s (.delayed s.dlyTime) x).2 next (radioArmTx s (.delayed s.dlyTime) x).1 := by
  unfold sendDelayed
  generalize radioArmTx s (.delayed s.dlyTime) x = answered
  obtain ⟨a, t⟩ := answered
  cases a <;> rfl

theorem radioArmTx_delayed (s : State) (d : Word) (x : Bool) :
    ∃ ans n, (radioArmTx s (.delayed d) x).2 = { s with
        env := { s.env with answers := ans, free := n, calls := s.env.calls ++ [.armTx (.delayed d) x] } } ∧
      ∀ b bs, s.env.answers.armTx = b :: bs →
        (radioArmTx s (.delayed d) x).1 = b ∧ ans = { s.env.answers with armTx := bs } ∧ n = s.env.free := by
  refine ⟨_, _, rfl, fun b bs h => ?_⟩
  simp [nextAnswer, radioArmTx, h]

theorem sendDelayed_eq (s : State) (x : Bool) (next : Phase) :
    ∃ a ans n, sendDelayed s x next = sentDelayed { s with
        env := { s.env with
          answers := ans, free := n, calls := s.env.calls ++ [.armTx (.delayed s.dlyTime) x] } } next a ∧
      ∀ b bs, s.env.answers.armTx = b :: bs →
        a = b ∧ ans = { s.env.answers with armTx := bs } ∧ n = s.env.free := by
  obtain ⟨ans, n, hCall, hAnswer⟩ := radioArmTx_delayed s s.dlyTime x
  refine ⟨(radioArmTx s (.delayed s.dlyTime) x).1, ans, n, ?_, hAnswer⟩
  rw [sendDelayed_eq_sentDelayed, hCall]

theorem finalWindow_eq (s : State) : finalWindow s = { s with
    env := { s.env with
      calls := s.env.calls ++ (if s.cfg.variant = .singleSided then []
        else [.setRxParams s.cfg.respTxToFinalRxDly s.cfg.finalRxTimeout s.cfg.preTimeoutPac]) } } := by
  unfold finalWindow
  by_cases h : s.cfg.variant = .singleSided
  · simp [h]
  · simp [h, radioSetRxParams, call]

/-- A frame built and handed to the radio (R142, R256). -/
theorem radioWriteTxFrame_built (m : Msg) (s : State) : radioWriteTxFrame (built m s) = { s with
    mem := (built m s).mem, txLen := BitVec.ofNat 5 (frameLen m)
    env := { s.env with
      calls := s.env.calls ++ [.writeTxFrame (memRead (built m s).mem .tx 0 (frameLen m)) (frameLen m)] } } := by
  rw [radioWriteTxFrame, built_txLen_toNat]
  rfl

/-- What stands in TXBUF after BUILD (R107 to R109, R142). -/
theorem built_layout {m : Msg} {s : State} (hWf : s.mem.wf = true) {n : Memory} (hBuilt : (built m s).mem = n) :
    headerAt n .tx s.cfg s.mat m ∧ bufByte n .tx 2 = s.seq ∧
      (∀ p ∈ embedded m, fieldAt n .tx p.2 (tsVal s p.1)) ∧
      (∀ i, frameLen m ≤ i + 2 → i < 24 → bufByte n .tx i = 0) ∧ sameOutside .tx s.mem n := by
  subst hBuilt
  exact ⟨headerAt_built m hWf, built_seq m hWf, fun p => built_field hWf, fun i => built_zeros m hWf,
    built_sameOutside m hWf⟩

/-! The buffers lie apart (R60). -/

theorem tx_not_holds_rx {i : Nat} (h : i < 24) : Buf.tx.holds (Buf.rx.base + i) = false := by
  rw [Bool.eq_false_iff, ne_eq, Buf.holds_iff]
  simp only [Buf.base, Buf.size]
  omega

theorem tx_not_holds_blob {i : Nat} (h : i < 36) : Buf.tx.holds (Buf.blob.base + i) = false := by
  rw [Bool.eq_false_iff, ne_eq, Buf.holds_iff]
  simp only [Buf.base, Buf.size]
  omega

theorem rx_not_holds_blob {i : Nat} (h : i < 36) : Buf.rx.holds (Buf.blob.base + i) = false := by
  rw [Bool.eq_false_iff, ne_eq, Buf.holds_iff]
  simp only [Buf.base, Buf.size]
  omega

/-! A good Poll (R216, R233). -/

/-- The transmit timestamp of the Response to a Poll received at `b` (R233). -/
def responseStamp (c : Config) (b : Time40) : DWord :=
  BitVec.ofNat 64 (((b.toNat + respDlyDtu c) % 2 ^ 40 / 512 * 512 + c.txAntDly.toNat) % 2 ^ 40)

/-- The Responder's state when its Response is scheduled. -/
def responseScheduled (s : State) : State :=
  scheduled (stampRx s .pollRx) .pollRx .respTx (respDlyDtu s.cfg)

theorem responseScheduled_kept (s : State) : (responseScheduled s).cfg = s.cfg ∧ (responseScheduled s).mat = s.mat ∧
    (responseScheduled s).seq = s.seq ∧ (responseScheduled s).mem = s.mem := by
  simp [responseScheduled, scheduled, stampRx]

section
variable {s : State} {b : Time40} {bs : List Time40} (hRx : s.env.answers.rxTime = b :: bs)
include hRx

theorem responseScheduled_eq : responseScheduled s = { s with
    ts := (s.ts.put .pollRx ⟨b.setWidth 64, true⟩).put .respTx ⟨tsVal (responseScheduled s) .respTx, true⟩
    dlyTime := (responseScheduled s).dlyTime
    env := { s.env with
      answers := { s.env.answers with rxTime := bs }, calls := s.env.calls ++ [.readRxTimestamp] } } := by
  unfold responseScheduled
  rw [stampRx_of_answer hRx]
  simp [scheduled, setTs, tsVal]

theorem tsVal_pollRx_stamped : (tsVal (stampRx s .pollRx) .pollRx).toNat % 2 ^ 40 = b.toNat := by
  have hb := b.isLt
  rw [stampRx_of_answer hRx, tsVal, TsFile.get_put_same, BitVec.toNat_setWidth]
  omega

theorem tsVal_pollRx_scheduled : tsVal (responseScheduled s) .pollRx = b.setWidth 64 := by
  rw [responseScheduled, stampRx_of_answer hRx]
  rfl

theorem responseScheduled_dlyTime :
    (responseScheduled s).dlyTime.toNat = (b.toNat + respDlyDtu s.cfg) % 2 ^ 40 / 256 := by
  rw [responseScheduled, scheduled_dlyTime_toNat, tsVal_pollRx_stamped hRx]

theorem responseScheduled_stamp : tsVal (responseScheduled s) .respTx = responseStamp s.cfg b := by
  refine BitVec.eq_of_toNat_eq ?_
  rw [responseScheduled, scheduled_stamp_toNat, tsVal_pollRx_stamped hRx, responseStamp, BitVec.toNat_ofNat,
    Nat.mod_eq_of_lt (a := _ % 2 ^ 40) (by omega)]
  rfl

end

/-- The Response in TXBUF, with the two timestamps it carries (R108, R142). -/
def responseIn (s : State) (b : Time40) (m : Memory) : Prop :=
  headerAt m .tx s.cfg s.mat .resp ∧ bufByte m .tx 2 = s.seq ∧ fieldAt m .tx 10 (b.setWidth 64) ∧
  fieldAt m .tx 14 (responseStamp s.cfg b) ∧ (∀ i, 18 ≤ i → i < 24 → bufByte m .tx i = 0) ∧ sameOutside .tx s.mem m

theorem responseIn_built {s : State} {b : Time40} {bs : List Time40} (hRx : s.env.answers.rxTime = b :: bs)
    (hWf : s.mem.wf = true) {m : Memory} (hBuilt : (built .resp (responseScheduled s)).mem = m) :
    responseIn s b m := by
  obtain ⟨hCfg, hMat, hSameSeq, hMem⟩ := responseScheduled_kept s
  obtain ⟨hHead, hSeq, hFields, hZeros, hOutside⟩ := built_layout (hMem.symm ▸ hWf) hBuilt
  rw [hCfg, hMat] at hHead
  rw [hSameSeq] at hSeq
  rw [hMem] at hOutside
  have hPollRx := hFields (.pollRx, 10) (by decide)
  have hRespTx := hFields (.respTx, 14) (by decide)
  rw [tsVal_pollRx_scheduled hRx] at hPollRx
  rw [responseScheduled_stamp hRx] at hRespTx
  exact ⟨hHead, hSeq, hPollRx, hRespTx, fun i hFrom => hZeros i (by simp only [frameLen]; omega), hOutside⟩

/-- The Response is with the radio, and the second window is asked for where the variant has one (R216). -/
theorem responsePrepared_eq {s : State} {b : Time40} {bs : List Time40} (hRx : s.env.answers.rxTime = b :: bs)
    (hWf : s.mem.wf = true) :
    ∃ m d, finalWindow (radioWriteTxFrame (built .resp (responseScheduled s))) = { s with
        ts := (s.ts.put .pollRx ⟨b.setWidth 64, true⟩).put .respTx ⟨responseStamp s.cfg b, true⟩
        dlyTime := d, mem := m, txLen := 20
        env := { s.env with
          answers := { s.env.answers with rxTime := bs }
          calls := s.env.calls ++ [.readRxTimestamp] ++ [.writeTxFrame (memRead m .tx 0 20) 20] ++
            (if s.cfg.variant = .singleSided then []
              else [.setRxParams s.cfg.respTxToFinalRxDly s.cfg.finalRxTimeout s.cfg.preTimeoutPac]) } } ∧
      d.toNat = (b.toNat + respDlyDtu s.cfg) % 2 ^ 40 / 256 ∧ responseIn s b m := by
  obtain ⟨m, hBuilt⟩ : ∃ m, (built .resp (responseScheduled s)).mem = m := ⟨_, rfl⟩
  have hScheduled := responseScheduled_eq hRx
  have hDly := responseScheduled_dlyTime hRx
  have hIn := responseIn_built hRx hWf hBuilt
  rw [responseScheduled_stamp hRx] at hScheduled
  refine ⟨m, (responseScheduled s).dlyTime, ?_, hDly, hIn⟩
  rw [finalWindow_eq, radioWriteTxFrame_built, hBuilt]
  generalize (responseScheduled s).dlyTime = d at hScheduled
  rw [hScheduled]
  rfl

/-- A good AwaitPoll step as a whole, with the radio's receive time and its answer at hand. -/
theorem gotPoll_of_answers {s : State} {b : Time40} {bs : List Time40} {a : TxAnswer} {as : List TxAnswer}
    (hRx : s.env.answers.rxTime = b :: bs) (hArm : s.env.answers.armTx = a :: as) (hWf : s.mem.wf = true) :
    ∃ m d, gotPoll s = .ok (sentDelayed { s with
        ts := (s.ts.put .pollRx ⟨b.setWidth 64, true⟩).put .respTx ⟨responseStamp s.cfg b, true⟩
        dlyTime := d, mem := m, txLen := 20
        env := { s.env with
          answers := { s.env.answers with rxTime := bs, armTx := as }
          calls := s.env.calls ++ [.readRxTimestamp] ++ [.writeTxFrame (memRead m .tx 0 20) 20] ++
            (if s.cfg.variant = .singleSided then []
              else [.setRxParams s.cfg.respTxToFinalRxDly s.cfg.finalRxTimeout s.cfg.preTimeoutPac]) ++
            [.armTx (.delayed d) (s.cfg.variant ≠ .singleSided)] } } .sendResponse a) ∧
      d.toNat = (b.toNat + respDlyDtu s.cfg) % 2 ^ 40 / 256 ∧ responseIn s b m := by
  obtain ⟨m, d, hPrepared, hDly, hIn⟩ := responsePrepared_eq hRx hWf
  obtain ⟨a', ans, n, hSend, hAnswer⟩ := sendDelayed_eq
    (finalWindow (radioWriteTxFrame (built .resp (responseScheduled s)))) (s.cfg.variant ≠ .singleSided) .sendResponse
  rw [hPrepared] at hSend hAnswer
  obtain ⟨rfl, rfl, rfl⟩ := hAnswer a as hArm
  refine ⟨m, d, ?_, hDly, hIn⟩
  rw [gotPoll_eq, ← responseScheduled, hPrepared]
  exact congrArg Except.ok hSend

/-- Settles O41: the frame validated, the Response laid out by `built`, and the radio's answer. -/
theorem goodPollSchedulesResponse : Obligations.GoodPollSchedulesResponse := by
  intro s st rest q qs f fs b bs a as hPhase hWf hStatus hGood hSts hOk hQuality hFrame hLen hHeader hRx hArm t x stamp
  have hStep : seqStep s = _ := seqStep_validated (m := .poll) (.inl hPhase) (by rw [hPhase]; rfl)
    (msgExists_of nofun) hWf hStatus hGood hSts hOk hQuality hFrame hLen hHeader
  have hBytes (i : Nat) (hi : i < 24) : bufByte (validated s st rest qs f fs).mem .rx i = f.getD i 0 :=
    bufByte_frameInHand s st rest qs fs (f := f) hWf hi
  have hOutside : sameOutside .rx s.mem (validated s st rest qs f fs).mem :=
    sameOutside_frameInHand s st rest qs fs (f := f) hWf
  obtain ⟨m, d, hGot, hDly, hHead, hSeq, hPollRx, hRespTx, hZeros, hOutsideTx⟩ :=
    gotPoll_of_answers (s := validated s st rest qs f fs) hRx hArm (memWrite_wf hWf ..)
  rw [hPhase, show afterFrame .awaitPoll = gotPoll from rfl, hGot, seqOutcome] at hStep
  have hTurn : t = _ := hStep
  have hElsewhere (buf : Buf) (i : Nat) (hi : Buf.tx.holds (buf.base + i) = false) :
      bufByte m buf i = bufByte (validated s st rest qs f fs).mem buf i := hOutsideTx _ hi
  have hRxBytes (i : Nat) (hi : i < 24) : bufByte m .rx i = f.getD i 0 := by
    rw [← hBytes i hi]
    exact hElsewhere .rx i (tx_not_holds_rx hi)
  have hBlobBytes (i : Nat) (hi : i < 36) : bufByte m .blob i = bufByte s.mem .blob i :=
    (hElsewhere .blob i (tx_not_holds_blob hi)).trans
      (hOutside _ (rx_not_holds_blob hi))
  rw [hTurn]
  refine ⟨?_, hDly, hHead, hSeq, hPollRx, hRespTx, hZeros, hRxBytes, hBlobBytes, ?_, ?_, ?_⟩
  · rw [validated_eq s st rest qs fs hLen]
    rfl
  · rw [validated_eq s st rest qs fs hLen]
    simp [sentDelayed, rxMask]
  · rintro rfl
    refine ⟨rfl, rfl, rfl, rfl, fun r hPollRxOther hRespTxOther => ?_, rfl⟩
    exact (TsFile.get_put_other _ _ hRespTxOther).trans (TsFile.get_put_other _ _ hPollRxOther)
  · rintro rfl
    exact ⟨rfl, clearTs_tsValid _, rfl⟩

end Sys2Proof.Machine

/-! SUPPORT. The compute steps as a whole (spec/44_sequencer.md R212 to R214, R222): the Initiator's result and its Final,
the Responder's report. -/

namespace Sys2Proof.Machine

/-! The Final (R214, R233). -/

/-- The transmit timestamp of the Final to a Response received at the held time (R233). -/
def finalStamp (s : State) : DWord :=
  BitVec.ofNat 64 ((((tsVal s .respRx).toNat % 2 ^ 40 + finalDlyDtu s.cfg) % 2 ^ 40 / 512 * 512 +
    s.cfg.txAntDly.toNat) % 2 ^ 40)

/-- The Initiator's state when its Final is scheduled. -/
def finalScheduled (s : State) : State := scheduled s .respRx .finalTx (finalDlyDtu s.cfg)

theorem finalScheduled_stamp (s : State) : tsVal (finalScheduled s) .finalTx = finalStamp s := by
  refine BitVec.eq_of_toNat_eq ?_
  rw [finalScheduled, scheduled_stamp_toNat, finalStamp, BitVec.toNat_ofNat,
    Nat.mod_eq_of_lt (a := _ % 2 ^ 40) (by omega)]

theorem finalScheduled_eq (s : State) : finalScheduled s = { s with
    ts := s.ts.put .finalTx ⟨finalStamp s, true⟩, dlyTime := (finalScheduled s).dlyTime } := by
  rw [← finalScheduled_stamp]
  simp [finalScheduled, scheduled, setTs, tsVal]

theorem finalScheduled_kept (s : State) : (finalScheduled s).cfg = s.cfg ∧ (finalScheduled s).mat = s.mat ∧
    (finalScheduled s).seq = s.seq ∧ (finalScheduled s).mem = s.mem := by
  simp [finalScheduled, scheduled]

/-- The Final in TXBUF, with the three timestamps it carries (R109, R142). -/
def finalIn (s : State) (m : Memory) : Prop :=
  headerAt m .tx s.cfg s.mat .final ∧ bufByte m .tx 2 = s.seq ∧ fieldAt m .tx 10 (tsVal s .pollTx) ∧
  fieldAt m .tx 14 (tsVal s .respRx) ∧ fieldAt m .tx 18 (finalStamp s) ∧
  (∀ i, 22 ≤ i → i < 24 → bufByte m .tx i = 0) ∧ sameOutside .tx s.mem m

theorem finalIn_built {s : State} (hWf : s.mem.wf = true) {m : Memory}
    (hBuilt : (built .final (finalScheduled s)).mem = m) : finalIn s m := by
  obtain ⟨hCfg, hMat, hSameSeq, hMem⟩ := finalScheduled_kept s
  obtain ⟨hHead, hSeq, hFields, hZeros, hOutside⟩ := built_layout (hMem.symm ▸ hWf) hBuilt
  have hPollTx := hFields (.pollTx, 10) (by decide)
  have hRespRx := hFields (.respRx, 14) (by decide)
  have hFinalTx := hFields (.finalTx, 18) (by decide)
  rw [hCfg, hMat] at hHead
  rw [hSameSeq] at hSeq
  rw [hMem] at hOutside
  rw [show tsVal (finalScheduled s) .pollTx = tsVal s .pollTx from rfl] at hPollTx
  rw [show tsVal (finalScheduled s) .respRx = tsVal s .respRx from rfl] at hRespRx
  rw [finalScheduled_stamp] at hFinalTx
  exact ⟨hHead, hSeq, hPollTx, hRespRx, hFinalTx, fun i hFrom => hZeros i (by simp only [frameLen]; omega), hOutside⟩

/-- The Final as a whole: scheduled, built, handed to the radio and sent, whatever the radio answers (R214). -/
theorem sendFinal_sent {s : State} (hVariant : s.cfg.variant ≠ .singleSided) (hPollTx : tsValid s .pollTx = true)
    (hRespRx : tsValid s .respRx = true) :
    ∃ m d a ans n, sendFinal s = .ok (sentDelayed { s with
        ts := s.ts.put .finalTx ⟨finalStamp s, true⟩, dlyTime := d, mem := m, txLen := 24
        env := { s.env with
          answers := ans, free := n
          calls := s.env.calls ++ [.writeTxFrame (memRead m .tx 0 24) 24] ++ [.armTx (.delayed d) false] } }
        .sendFinal a) ∧
      d.toNat = ((tsVal s .respRx).toNat % 2 ^ 40 + finalDlyDtu s.cfg) % 2 ^ 40 / 256 ∧
      (s.mem.wf = true → finalIn s m) ∧
      ∀ b bs, s.env.answers.armTx = b :: bs → a = b ∧ ans = { s.env.answers with armTx := bs } := by
  obtain ⟨m, hBuilt⟩ : ∃ m, (built .final (finalScheduled s)).mem = m := ⟨_, rfl⟩
  have hScheduled := finalScheduled_eq s
  have hDly := scheduled_dlyTime_toNat s .respRx .finalTx (finalDlyDtu s.cfg)
  rw [← finalScheduled] at hDly
  have hHanded := radioWriteTxFrame_built .final (finalScheduled s)
  rw [hBuilt] at hHanded
  obtain ⟨a, ans, n, hSend, hAnswer⟩ :=
    sendDelayed_eq (radioWriteTxFrame (built .final (finalScheduled s))) false .sendFinal
  rw [hHanded] at hSend hAnswer
  refine ⟨m, (finalScheduled s).dlyTime, a, ans, n, ?_, hDly, fun hWf => finalIn_built hWf hBuilt, ?_⟩
  · rw [sendFinal_eq hVariant hPollTx hRespRx, ← finalScheduled, hHanded]
    generalize (finalScheduled s).dlyTime = d at hScheduled
    rw [hScheduled] at hSend ⊢
    exact congrArg Except.ok hSend
  · generalize (finalScheduled s).dlyTime = d at hScheduled
    rw [hScheduled] at hAnswer
    exact fun b bs h => ⟨(hAnswer b bs h).1, (hAnswer b bs h).2.1⟩

/-! The Initiator's compute step (R212, R213). -/

/-- What the SS-TWR formula, DURMS and PDOACVT give the Initiator (R163, R166, R167, R173). -/
def initiatorResults (s : State) : Results :=
  { tofDtu := (setResults s (tofSsDtu s)).tofDtu
    tofS := (setResults s (tofSsDtu s)).tofS
    distM := (setResults s (tofSsDtu s)).distM
    wrapFlag := longPair s .respRx .pollTx
    durMs := if s.cfg.durEn then durationMs (d40 s .pollTx .respRx) else s.durMs
    durValid := s.cfg.durEn || s.durValid
    pdoaDeg := if s.cfg.pdoaEn then pdoaDegrees s.pdoaRaw else s.pdoaDeg
    pdoaValid := s.cfg.pdoaEn || s.pdoaValid
    free := (setResults s (tofSsDtu s)).env.free }

/-- The Initiator's state when its result is with the sink. -/
def resultDelivered (s : State) : State :=
  computed s (initiatorResults s) (s.env.sink ++ resultMessage (initiatorResults s).distM)

/-- The Initiator's compute step as a whole: the result delivered, then the end of the cycle or the Final. -/
theorem computeInitiator_eq {s : State} (hValid : tsAllValid s initiatorTs = true) : computeInitiator s =
    if s.cfg.variant = .singleSided then .ok (endCycle (resultDelivered s)) else sendFinal (resultDelivered s) := by
  have hPair : tsAllValid s [.pollTx, .respRx] = true := by
    rw [tsAllValid_iff] at hValid ⊢
    exact fun r hr => hValid r (by revert r; decide)
  have hTof := (tofssEffect_ok_iff s _).mpr ⟨hValid, rfl⟩
  have hSide := sideOutputs_eq (a := .pollTx) (b := .respRx) (s := { setResults s (tofSsDtu s) with
    wrapFlag := longPair s .respRx .pollTx }) hPair
  unfold computeInitiator
  rw [hTof]
  simp only [bind, Except.bind]
  rw [hSide]
  rfl

theorem seqStep_computeInitiator {s : State} (hPhase : s.phase = .compute) (hRole : s.cfg.role = .initiator)
    (hValid : tsAllValid s initiatorTs = true) : seqStep s = seqOutcome s
      (if s.cfg.variant = .singleSided then .ok (endCycle (resultDelivered s)) else sendFinal (resultDelivered s)) := by
  rw [← computeInitiator_eq hValid, seqStep, hPhase, hRole]

/-- Settles O44: the results of `setResults`, then the two ends of the step. -/
theorem initiatorComputeDelivers : Obligations.InitiatorComputeDelivers := by
  intro s hPhase hRole hValid t x stamp
  obtain ⟨hDtu, hS, hM⟩ := setResults_isResult s (tofSsDtu s)
  have hStep := seqStep_computeInitiator hPhase hRole hValid
  have hWrap := longPair_iff s .respRx .pollTx
  rw [tsAllValid_iff] at hValid
  by_cases hVariant : s.cfg.variant = .singleSided
  · rw [if_pos hVariant, seqOutcome] at hStep
    have hTurn : t = _ := hStep
    rw [hTurn]
    exact ⟨⟨rfl, hDtu, hS, hM, hWrap, rfl, rfl⟩,
      fun _ => ⟨rfl, clearTs_tsValid _, rfl, rfl, rfl, rfl, rfl, rfl⟩, fun hOther => absurd hVariant hOther⟩
  · obtain ⟨m, d, a, ans, n, hFinal, hDly, hIn, hAnswer⟩ := sendFinal_sent (s := resultDelivered s) hVariant
      (hValid .pollTx (by decide)) (hValid .respRx (by decide))
    rw [if_neg hVariant, hFinal, seqOutcome] at hStep
    have hTurn : t = _ := hStep
    rw [hTurn]
    refine ⟨⟨rfl, hDtu, hS, hM, hWrap, rfl, rfl⟩, fun hSingle => absurd hSingle hVariant, fun _ hWf => ?_⟩
    obtain ⟨hHead, hSeq, hPollTx, hRespRx, hFinalTx, hZeros, hOutside⟩ := hIn hWf
    refine ⟨hDly, rfl, hHead, hSeq, hPollTx, hRespRx, hFinalTx, hZeros, hOutside, ?_, fun b bs hArm => ?_⟩
    · exact List.append_assoc ..
    · obtain ⟨rfl, rfl⟩ := hAnswer b bs hArm
      refine ⟨rfl, ?_, ?_⟩
      · rintro rfl
        exact ⟨rfl, rfl, rfl, fun r hr => TsFile.get_put_other _ _ hr, rfl⟩
      · rintro rfl
        exact ⟨rfl, clearTs_tsValid _, rfl⟩

/-- Settles O45. -/
theorem responderComputeReportsOnly : Obligations.ResponderComputeReportsOnly := by
  intro s hPhase hRole hValid t
  obtain ⟨hDtu, hS, hM⟩ := setResults_isResult s (tofDsDtu s)
  have hStep : seqStep s = seqOutcome s (computeResponder s) := by rw [seqStep, hPhase, hRole]
  rw [computeResponder_eq hValid, seqOutcome] at hStep
  have hTurn : t = _ := hStep
  rw [hTurn]
  exact ⟨rfl, hDtu, hS, hM, longPairs_iff s, clearTs_tsValid _⟩

/-- Settles O49: the invariant holds the timestamps that both compute steps read. -/
theorem computeNeverStalls : Obligations.ComputeNeverStalls := by
  intro s hGood hPhase
  obtain ⟨-, -, -, hFits, -⟩ := (goodState_iff s).mp hGood
  obtain ⟨-, hFault, -⟩ := (seqStep_turn s).kept
  suffices h : ((seqStep s).phase = .idle ∨ (seqStep s).phase = .sendFinal) ∧ (seqStep s).resultValid = true from
    ⟨h.1, h.2, hFault⟩
  cases hRole : s.cfg.role with
  | initiator =>
    have hValid : tsAllValid s initiatorTs = true := by simpa [phaseFits, hPhase, hRole] using hFits
    rw [seqStep_computeInitiator hPhase hRole hValid]
    rw [tsAllValid_iff] at hValid
    by_cases hVariant : s.cfg.variant = .singleSided
    · rw [if_pos hVariant]
      exact ⟨.inl rfl, rfl⟩
    · obtain ⟨m, d, a, ans, n, hFinal, -⟩ := sendFinal_sent (s := resultDelivered s) hVariant
        (hValid .pollTx (by decide)) (hValid .respRx (by decide))
      rw [if_neg hVariant, hFinal]
      cases a with
      | ok => exact ⟨.inr rfl, rfl⟩
      | late => exact ⟨.inl rfl, rfl⟩
  | responder =>
    have hValid : tsAllValid s allTs = true := by
      have h := hFits
      simp only [phaseFits, hPhase, hRole, Bool.and_eq_true] at h
      exact h.2
    obtain ⟨hFrame, -⟩ := responderComputeReportsOnly s hPhase hRole hValid
    rw [hFrame]
    exact ⟨.inl rfl, rfl⟩

end Sys2Proof.Machine

/-! SUPPORT. The error counters gate nothing (spec/10_state.md R37): every operation of the model, at a state with other
counters, takes the same course. `Blind` and `BlindE` say so of an operation, and are closed under the ways in which the
model puts operations together. -/

namespace Sys2Proof.Machine

/-- The state with other error counters. -/
def withCounters (s : State) (c : ErrCounters) : State := { s with errCnt := c }

theorem withCounters_mem (s : State) (c : ErrCounters) : (withCounters s c).mem = s.mem := rfl

/-- An operation whose result depends on the counters in its counters alone. -/
def Blind (f : State → State) : Prop := ∀ s c, ∃ c', f (withCounters s c) = withCounters (f s) c'

/-- The same of an operation that may raise a command fault: it raises the same fault, or none. -/
def BlindE (f : State → Except CmdFault State) : Prop :=
  ∀ s c, ∃ c', f (withCounters s c) = (f s).map (withCounters · c')

/-! How operations are put together. -/

theorem Blind.of_commutes {f : State → State} (h : ∀ s c, f (withCounters s c) = withCounters (f s) c) : Blind f :=
  fun s c => ⟨c, h s c⟩

theorem Blind.comp {f g : State → State} (hg : Blind g) (hf : Blind f) : Blind fun s => g (f s) := fun s c => by
  obtain ⟨c', hFirst⟩ := hf s c
  obtain ⟨c'', hSecond⟩ := hg (f s) c'
  exact ⟨c'', by simp only [hFirst, hSecond]⟩

theorem Blind.ite {f g : State → State} {p : State → Prop} [DecidablePred p] (hp : ∀ s c, p (withCounters s c) ↔ p s)
    (hf : Blind f) (hg : Blind g) : Blind fun s => if p s then f s else g s := fun s c => by
  by_cases h : p s
  · simpa only [hp, if_pos h] using hf s c
  · simpa only [hp, if_neg h] using hg s c

theorem BlindE.ite {f g : State → Except CmdFault State} {p : State → Prop} [DecidablePred p]
    (hp : ∀ s c, p (withCounters s c) ↔ p s) (hf : BlindE f) (hg : BlindE g) :
    BlindE fun s => if p s then f s else g s := fun s c => by
  by_cases h : p s
  · simpa only [hp, if_pos h] using hf s c
  · simpa only [hp, if_neg h] using hg s c

/-- A choice by something that is no counter. -/
theorem Blind.pick {α : Type} {x : State → α} {f : α → State → State} (hx : ∀ s c, x (withCounters s c) = x s)
    (hf : ∀ a, Blind (f a)) : Blind fun s => f (x s) s := fun s c => by
  simpa only [hx] using hf (x s) s c

theorem BlindE.pick {α : Type} {x : State → α} {f : α → State → Except CmdFault State}
    (hx : ∀ s c, x (withCounters s c) = x s) (hf : ∀ a, BlindE (f a)) : BlindE fun s => f (x s) s := fun s c => by
  simpa only [hx] using hf (x s) s c

theorem BlindE.ok {f : State → State} (h : Blind f) : BlindE fun s => .ok (f s) := fun s c => by
  obtain ⟨c', hSame⟩ := h s c
  exact ⟨c', congrArg Except.ok hSame⟩

theorem BlindE.error (e : CmdFault) : BlindE fun _ => .error e := fun _ c => ⟨c, rfl⟩

theorem BlindE.comp {f : State → State} {g : State → Except CmdFault State} (hg : BlindE g) (hf : Blind f) :
    BlindE fun s => g (f s) := fun s c => by
  obtain ⟨c', hFirst⟩ := hf s c
  obtain ⟨c'', hSecond⟩ := hg (f s) c'
  exact ⟨c'', by simp only [hFirst, hSecond]⟩

theorem BlindE.bind {f g : State → Except CmdFault State} (hf : BlindE f) (hg : BlindE g) :
    BlindE fun s => (f s).bind g := fun s c => by
  obtain ⟨c', hFirst⟩ := hf s c
  cases h : f s with
  | error e => exact ⟨c, by simp only [hFirst, h]; rfl⟩
  | ok t =>
    obtain ⟨c'', hSecond⟩ := hg t c'
    exact ⟨c'', by simp only [hFirst, h]; exact hSecond⟩

/-- An operand, or a check that reads no counter, before the operation. -/
theorem BlindE.after {α : Type} {x : State → Except CmdFault α} {g : α → State → Except CmdFault State}
    (hx : ∀ s c, x (withCounters s c) = x s) (hg : ∀ a, BlindE (g a)) : BlindE fun s => (x s).bind fun a => g a s :=
  fun s c => by
    cases h : x s with
    | error e => exact ⟨c, by simp only [hx, h]; rfl⟩
    | ok a =>
      obtain ⟨c', hSame⟩ := hg a s c
      exact ⟨c', by simp only [hx, h]; exact hSame⟩

theorem BlindE.seqOutcome {f : State → Except CmdFault State} (h : BlindE f) :
    Blind fun s => seqOutcome s (f s) := fun s c => by
  obtain ⟨c', hSame⟩ := h s c
  cases hf : f s with
  | error e => exact ⟨c, by simp only [hSame, hf]; rfl⟩
  | ok t => exact ⟨c', by simp only [hSame, hf]; rfl⟩

theorem BlindE.finishCommand {f : State → Except CmdFault State} (h : BlindE f) :
    Blind fun s => finishCommand s (f s) := fun s c => by
  obtain ⟨c', hSame⟩ := h s c
  cases hf : f s with
  | error e => exact ⟨c, by simp only [hSame, hf]; rfl⟩
  | ok t => exact ⟨c', by simp only [hSame, hf]; rfl⟩

/-! The effects of the commands. -/

theorem blind_countError (k : ErrKind) (mask : Byte) : Blind fun s => countError s k mask := fun _ c => ⟨c.bump k, rfl⟩

theorem blind_raiseErr (k : ErrKind) (mask : Byte) : Blind fun s => raiseErr s k mask := fun _ c => ⟨c.bump k, rfl⟩

theorem blind_clearTs : Blind clearTs := .of_commutes fun _ _ => rfl

theorem blind_endCycle : Blind endCycle := .of_commutes fun _ _ => rfl

theorem blind_bumpSeq : Blind bumpSeq := .of_commutes fun _ _ => rfl

theorem embedTs_withCounters (s : State) (c : ErrCounters) (l : List (TsReg × Nat)) :
    embedTs (withCounters s c) l = embedTs s l := by
  induction l generalizing s with
  | nil => rfl
  | cons p l ih => exact ih (storeBytes s .tx p.2 (encField (tsVal s p.1)))

theorem buildHeader_withCounters (m : Msg) (s : State) (c : ErrCounters) :
    buildHeader m (withCounters s c) = withCounters (buildHeader m s) c := by
  unfold buildHeader storeBytes withCounters
  with_reducible rfl

theorem blind_built (m : Msg) : Blind (built m) := .of_commutes fun s c => by
  rw [built, buildHeader_withCounters, embedTs_withCounters]
  rfl

theorem blindE_needTs {g : State → State} (rs : List TsReg) (hg : Blind g) :
    BlindE fun s => (needTs s rs).bind fun _ => .ok (g s) := .after (fun _ _ => rfl) fun _ => .ok hg

theorem blindE_enc32 (r : TsReg) (off : Nat) : BlindE (enc32Effect r off) :=
  .ite (p := fun _ => off + 4 > frameBufLen) (fun _ _ => .rfl) (.error _) (blindE_needTs [r] (.of_commutes fun _ _ => rfl))

theorem blindE_dec32 (r : TsReg) (off : Nat) : BlindE (dec32Effect r off) :=
  .ite (p := fun s => off + 4 > rxReadable s) (fun _ _ => .rfl) (.error _) (.ok (.of_commutes fun _ _ => rfl))

theorem blindE_txsched (m : Msg) : BlindE (txschedEffect m) := by
  refine .after (x := fun s => needMsg s.cfg m) (fun _ _ => rfl) fun _ => ?_
  cases m with
  | poll => exact .error _
  | resp | final => exact blindE_needTs _ (.of_commutes fun _ _ => rfl)

theorem blindE_build (m : Msg) : BlindE (buildEffect m) :=
  .after (x := fun s => needMsg s.cfg m) (fun _ _ => rfl) fun _ => blindE_needTs _ (blind_built m)

theorem blindE_validate (m : Msg) : BlindE (validateEffect m) :=
  .after (x := fun s => needMsg s.cfg m) (fun _ _ => rfl) fun _ => .ok (.of_commutes fun _ _ => rfl)

theorem blindE_tofss : BlindE tofssEffect := blindE_needTs _ (.of_commutes fun _ _ => rfl)

theorem blindE_tofds : BlindE tofdsEffect := blindE_needTs _ (.of_commutes fun _ _ => rfl)

theorem blindE_durms (a b : TsReg) : BlindE (durmsEffect a b) := blindE_needTs _ (.of_commutes fun _ _ => rfl)

theorem blindE_pdoacvt : BlindE pdoacvtEffect := .ok (.of_commutes fun _ _ => rfl)

theorem blindE_postkey : BlindE postkeyEffect := .ok (.of_commutes fun _ _ => rfl)

theorem blindE_deliver : BlindE deliverEffect :=
  .ite (fun _ _ => .rfl) (.ok (.of_commutes fun _ _ => rfl)) (.error _)

theorem blind_applyKey : Blind applyKey :=
  .ite (p := fun s => s.pend.valid = true) (fun _ _ => .rfl) (.of_commutes fun _ _ => rfl) (.of_commutes fun _ _ => rfl)

theorem blind_armCycle : Blind armCycle :=
  .ite (p := fun s => s.firstCycle = true) (fun _ _ => .rfl) (.of_commutes fun _ _ => rfl) (.of_commutes fun _ _ => rfl)

/-! The sequencer's steps. -/

theorem blind_cycleHead : Blind cycleHead :=
  blind_armCycle.comp (.comp (g := fun s => { clearTs s with
    resultValid := false, pdoaValid := false, durValid := false, vok := false, wrapFlag := false })
    (.of_commutes fun _ _ => rfl) blind_applyKey)

theorem blind_pollSent : Blind pollSent := .of_commutes fun s c => by
  have hMem : (built .poll (withCounters s c)).mem = (built .poll s).mem := by
    obtain ⟨c', h⟩ := blind_built .poll s c
    rw [h, withCounters_mem]
  unfold pollSent
  rw [hMem]
  generalize (built .poll s).mem = m
  rfl

theorem blindE_sendPoll : BlindE sendPoll := by
  rw [funext sendPoll_eq]
  exact .ok blind_pollSent

theorem blindE_cycleStart : BlindE cycleStart := by
  refine .pick (x := fun s => s.cfg.role) (f := fun r s => match r with
    | .initiator => sendPoll (cycleHead s)
    | .responder => .ok (armForPoll (cycleHead s))) (fun _ _ => rfl) fun r => ?_
  cases r with
  | initiator => exact blindE_sendPoll.comp blind_cycleHead
  | responder => exact .ok (.comp (g := armForPoll) (.of_commutes fun _ _ => rfl) blind_cycleHead)

/-- What a look at the radio's status gives, with other counters. -/
def Waited.withCounters (c : ErrCounters) : Waited → Waited
  | .blocked s => .blocked (Machine.withCounters s c)
  | .returned st s => .returned st (Machine.withCounters s c)

theorem radioWaitStatus_withCounters (s : State) (c : ErrCounters) (mask : Word) :
    radioWaitStatus (withCounters s c) mask = (radioWaitStatus s mask).withCounters c := by
  unfold radioWaitStatus
  rw [show (withCounters s c).env = s.env from rfl]
  cases s.env.answers.status with
  | nil => rfl
  | cons st rest =>
    by_cases hMask : st &&& mask = 0
    · simp only [hMask, if_true]
      rfl
    · simp only [hMask, if_false]
      rfl

theorem blind_txWait {next : State → State} (hNext : Blind next) : Blind fun s => txWait s next := fun s c => by
  simp only [txWait, radioWaitStatus_withCounters]
  cases radioWaitStatus s txDoneMask with
  | blocked t => exact ⟨c, rfl⟩
  | returned st t =>
    exact hNext.comp (f := fun t => bumpSeq (radioClearStatus t txDoneMask)) (.of_commutes fun _ _ => rfl) t c

theorem blind_radioReadFrame : Blind radioReadFrame := .of_commutes fun _ _ => rfl

theorem blindE_rxGood (m : Msg) {rest : State → Except CmdFault State} (hRest : BlindE rest) :
    BlindE (rxGood m rest) := by
  have hRead : Blind fun s => (radioReadSts s).2 := .of_commutes fun _ _ => rfl
  have hCheck : BlindE fun t => if t.vok then rest t else .ok (raiseErr t .badFrameHeader 0) :=
    .ite (p := fun t => t.vok = true) (fun _ _ => .rfl) hRest (.ok (blind_raiseErr _ _))
  have hFrame : BlindE fun s => validateEffect m (radioReadFrame (radioReadSts s).2) :=
    .comp (f := fun s => radioReadFrame (radioReadSts s).2) (blindE_validate m) (blind_radioReadFrame.comp hRead)
  have hBad := (blind_raiseErr .badStsQuality 0).comp hRead
  exact .ite (p := fun s => stsAccepted (radioReadSts s).1 = true) (fun _ _ => .rfl) (hFrame.bind hCheck) (.ok hBad)

theorem blind_rxWait (m : Msg) {rest : State → Except CmdFault State} (hRest : BlindE rest) :
    Blind (rxWait m rest) := fun s c => by
  simp only [rxWait, radioWaitStatus_withCounters]
  cases radioWaitStatus s rxMask with
  | blocked t => exact ⟨c, rfl⟩
  | returned st t =>
    simp only [Waited.withCounters]
    cases classify st with
    | bad k mask => exact blind_raiseErr k mask (radioClearStatus t (st &&& rxMask)) c
    | good =>
      obtain ⟨c', hSame⟩ := blindE_rxGood m hRest (radioClearStatus t (st &&& rxMask)) c
      rw [show radioClearStatus (withCounters t c) (st &&& rxMask) =
        withCounters (radioClearStatus t (st &&& rxMask)) c from rfl, hSame]
      cases rxGood m rest (radioClearStatus t (st &&& rxMask)) with
      | ok u => exact ⟨c', rfl⟩
      | error e => exact ⟨c, rfl⟩

theorem blind_stampTx (r : TsReg) : Blind fun s => stampTx s r := .of_commutes fun _ _ => rfl

theorem blind_stampRx (r : TsReg) : Blind fun s => stampRx s r := .of_commutes fun _ _ => rfl

theorem blindE_extract (l : List (TsReg × Nat)) : BlindE fun s => extractEffect s l := by
  induction l with
  | nil => exact .ok (.of_commutes fun _ _ => rfl)
  | cons p l ih => exact (blindE_dec32 p.1 p.2).bind ih

theorem blind_readClock : Blind readClock :=
  .ite (p := fun s => s.cfg.clkoffEn = true) (fun _ _ => .rfl) (.of_commutes fun _ _ => rfl) (.of_commutes fun _ _ => rfl)

theorem blind_readPdoa : Blind readPdoa :=
  .ite (p := fun s => s.cfg.pdoaEn = true) (fun _ _ => .rfl) (.of_commutes fun _ _ => rfl) (.of_commutes fun _ _ => rfl)

theorem blind_enterPhase (p : Phase) : Blind fun s => { s with phase := p } := .of_commutes fun _ _ => rfl

theorem blindE_gotResponse : BlindE gotResponse :=
  .bind (.comp (blindE_extract (embedded .resp)) ((blind_stampRx .respRx).comp (blind_stampTx .pollTx)))
    (.ok ((blind_enterPhase .compute).comp (blind_readPdoa.comp blind_readClock)))

theorem blindE_gotFinal : BlindE gotFinal :=
  .bind (.comp (blindE_extract (embedded .final)) (blind_stampRx .finalRx))
    (.ok ((blind_enterPhase .compute).comp blind_readPdoa))

theorem blind_sendDelayed (x : Bool) (next : Phase) : Blind fun s => sendDelayed s x next := by
  have hArm : Blind fun s => (radioArmTx s (.delayed s.dlyTime) x).2 := .of_commutes fun _ _ => rfl
  refine .pick (x := fun s => (radioArmTx s (.delayed s.dlyTime) x).1) (f := fun a s => match a with
    | .ok => { (radioArmTx s (.delayed s.dlyTime) x).2 with phase := next }
    | .late => raiseErr (radioArmTx s (.delayed s.dlyTime) x).2 .delayedTxTooLate 0) (fun _ _ => rfl) fun a => ?_
  cases a with
  | ok => exact (blind_enterPhase next).comp hArm
  | late => exact (blind_raiseErr .delayedTxTooLate 0).comp hArm

theorem blind_writeTxFrame : Blind radioWriteTxFrame := .of_commutes fun _ _ => rfl

theorem blind_finalWindow : Blind finalWindow :=
  .ite (p := fun s => s.cfg.variant = .singleSided) (fun _ _ => .rfl) (.of_commutes fun _ _ => rfl)
    (.of_commutes fun _ _ => rfl)

theorem blindE_gotPoll : BlindE gotPoll :=
  .bind (.comp (blindE_txsched .resp) (blind_stampRx .pollRx)) <| .bind (blindE_build .resp) <|
    .ok (.comp (.pick (x := fun s => decide (s.cfg.variant ≠ .singleSided)) (fun _ _ => rfl)
      (fun x => blind_sendDelayed x .sendResponse)) (blind_finalWindow.comp blind_writeTxFrame))

theorem blind_responseSent : Blind responseSent :=
  .ite (p := fun s => s.cfg.variant = .singleSided) (fun _ _ => .rfl) blind_endCycle (blind_enterPhase .awaitFinal)

theorem blindE_sideOutputs (a b : TsReg) : BlindE (sideOutputs a b) := by
  have hSame : BlindE fun s => .ok s := .ok (.of_commutes fun _ _ => rfl)
  have hPdoa : BlindE fun s => if s.cfg.pdoaEn then pdoacvtEffect s else .ok s :=
    .ite (p := fun s => s.cfg.pdoaEn = true) (fun _ _ => .rfl) blindE_pdoacvt hSame
  exact .ite (p := fun s => s.cfg.durEn = true) (fun _ _ => .rfl) ((blindE_durms a b).bind hPdoa) hPdoa

theorem blindE_sendFinal : BlindE sendFinal :=
  .bind (blindE_txsched .final) <| .bind (blindE_build .final) <|
    .ok ((blind_sendDelayed false .sendFinal).comp blind_writeTxFrame)

theorem blindE_computeInitiator : BlindE computeInitiator :=
  .bind blindE_tofss <| .bind (blindE_sideOutputs .pollTx .respRx) <| .bind blindE_deliver <|
    .ite (p := fun s => s.cfg.variant = .singleSided) (fun _ _ => .rfl) (.ok blind_endCycle) blindE_sendFinal

theorem blindE_computeResponder : BlindE computeResponder :=
  .bind blindE_tofds <| .bind (blindE_sideOutputs .pollRx .finalRx) <| .ok blind_endCycle

theorem blind_initStep : Blind initStep := by
  have hConfigure : Blind fun s => (radioConfigure s).2 := .of_commutes fun _ _ => rfl
  refine .pick (x := fun s => (radioConfigure s).1) (f := fun a s => match a with
    | .ok => { (radioConfigure s).2 with phase := .idle }
    | .notResponding => raiseFatal (radioConfigure s).2 1
    | .rejected => raiseFatal (radioConfigure s).2 2) (fun _ _ => rfl) fun a => ?_
  have hFatal (code : Byte) : Blind fun s => raiseFatal s code := .of_commutes fun _ _ => rfl
  cases a with
  | ok => exact (blind_enterPhase .idle).comp hConfigure
  | notResponding => exact (hFatal 1).comp hConfigure
  | rejected => exact (hFatal 2).comp hConfigure

theorem blind_seqStep : Blind seqStep := fun s c => by
  have hPhase : (withCounters s c).phase = s.phase := rfl
  have hRole : (withCounters s c).cfg.role = s.cfg.role := rfl
  have hAuto : (withCounters s c).auto = s.auto := rfl
  unfold seqStep
  rw [hPhase, hRole, hAuto]
  cases s.phase with
  | init => exact blind_initStep s c
  | idle =>
    cases s.auto with
    | true => exact blindE_cycleStart.seqOutcome s c
    | false => exact ⟨c, rfl⟩
  | sendPoll => exact blind_txWait (blind_enterPhase .awaitResponse) s c
  | awaitResponse => exact blind_rxWait .resp blindE_gotResponse s c
  | sendFinal => exact blind_txWait blind_endCycle s c
  | awaitPoll => exact blind_rxWait .poll blindE_gotPoll s c
  | sendResponse => exact blind_txWait blind_responseSent s c
  | awaitFinal => exact blind_rxWait .final blindE_gotFinal s c
  | compute =>
    cases s.cfg.role with
    | initiator => exact blindE_computeInitiator.seqOutcome s c
    | responder => exact blindE_computeResponder.seqOutcome s c
  | fatal => exact ⟨c, rfl⟩

/-! Commands, register writes and the step. -/

theorem blindE_commandEffect (i : Instr) : BlindE (commandEffect i) := by
  cases i with
  | enc32 ts off => exact .after (fun _ _ => rfl) fun r => blindE_enc32 r off.toNat
  | dec32 ts off => exact .after (fun _ _ => rfl) fun r => blindE_dec32 r off.toNat
  | txsched msg => exact .after (fun _ _ => rfl) blindE_txsched
  | build msg => exact .after (fun _ _ => rfl) blindE_build
  | validate msg => exact .after (fun _ _ => rfl) blindE_validate
  | tofss => exact blindE_tofss
  | tofds => exact blindE_tofds
  | pdoacvt => exact blindE_pdoacvt
  | durms a b => exact .after (fun _ _ => rfl) fun ra => .after (fun _ _ => rfl) (blindE_durms ra)
  | postkey => exact blindE_postkey
  | applykey => exact .ok blind_applyKey
  | armcyc => exact .ok blind_armCycle
  | seqinc => exact .ok blind_bumpSeq
  | errinc kind mask => exact .after (fun _ _ => rfl) fun k => .ok (blind_countError k mask)
  | tsclr => exact .ok blind_clearTs
  | deliver => exact blindE_deliver
  | run => exact blindE_cycleStart

theorem blind_id : Blind fun s => s := .of_commutes fun _ _ => rfl

theorem blind_raiseCmdFault (e : CmdFault) : Blind fun s => raiseCmdFault s e := .of_commutes fun _ _ => rfl

theorem blind_idleCommand {f : State → Except CmdFault State} (h : BlindE f) : Blind fun s => idleCommand s f :=
  .ite (p := fun s => s.phase = .fatal) (fun _ _ => .rfl) blind_id
    (.ite (p := fun s => s.phase ≠ .idle) (fun _ _ => .rfl) (blind_raiseCmdFault .busy) h.finishCommand)

theorem blind_anytimeCommand {f : State → Except CmdFault State} (h : BlindE f) : Blind fun s => anytimeCommand s f :=
  .ite (p := fun s => s.phase = .fatal) (fun _ _ => .rfl) blind_id h.finishCommand

theorem blind_inIdle {f : State → State} (h : Blind f) : Blind fun s => inIdle s (f s) :=
  .ite (p := fun s => s.phase = .idle) (fun _ _ => .rfl) h blind_id

theorem blind_notInFatal {f : State → State} (h : Blind f) : Blind fun s => notInFatal s (f s) :=
  .ite (p := fun s => s.phase = .fatal) (fun _ _ => .rfl) blind_id h

theorem blind_writeReg (v : Word) (r : Reg) : Blind fun s => writeReg s v r := by
  cases r with
  | ctrl => exact blind_notInFatal (f := fun s => { s with auto := v.getLsbD 0 }) (.of_commutes fun _ _ => rfl)
  | kRaw => exact blind_inIdle (f := fun s => { s with kRaw := v }) (.of_commutes fun _ _ => rfl)
  | pdoaRaw => exact blind_inIdle (f := fun s => { s with pdoaRaw := v.setWidth 16 }) (.of_commutes fun _ _ => rfl)
  | rxLen => exact blind_inIdle (f := fun s => { s with rxLen := v.setWidth 10 }) (.of_commutes fun _ _ => rfl)
  | tsLo r => exact blind_inIdle (f := fun s => writeTsLo s r v) (.of_commutes fun _ _ => rfl)
  | tsHi r => exact blind_inIdle (f := fun s => writeTsHi s r v) (.of_commutes fun _ _ => rfl)
  | bufWord b a =>
    have hSet : Blind fun s => { s with mem := memSetWord s.mem a v } := .of_commutes fun _ _ => rfl
    cases b with
    | blob => exact blind_notInFatal hSet
    | tx | rx => exact blind_inIdle hSet
  | _ => exact blind_id

/-- An operation of the port whose outcome depends on the counters in the counters of its next state alone. -/
def BlindO (f : State → Host.Outcome State Fault Refusal) : Prop := ∀ s c, ∃ c', f (withCounters s c) =
  match f s with
  | .next t => .next (withCounters t c')
  | .fault e => .fault e
  | .refused r => .refused r

theorem BlindO.next {f : State → State} (h : Blind f) : BlindO fun s => .next (f s) := fun s c => by
  obtain ⟨c', hSame⟩ := h s c
  exact ⟨c', congrArg Host.Outcome.next hSame⟩

theorem BlindO.comp {f : State → State} {g : State → Host.Outcome State Fault Refusal} (hg : BlindO g)
    (hf : ∀ s c, f (withCounters s c) = withCounters (f s) c) : BlindO fun s => g (f s) := fun s c => by
  simpa only [hf] using hg (f s) c

theorem blindO_exec (i : Instr) : BlindO (exec i) := by
  rw [funext (exec_eq i)]
  exact .next (.ite (p := fun _ => i = .postkey) (fun _ _ => .rfl) (blind_anytimeCommand (blindE_commandEffect i))
    (blind_idleCommand (blindE_commandEffect i)))

theorem blindO_runWord (w : Word) : BlindO (runWord w) := by
  unfold runWord
  cases decode w with
  | ok i => exact blindO_exec i
  | error e => exact .next (blind_anytimeCommand (.error .illegalOp))

theorem BlindO.onPort (a : Nat) {f : State → Host.Outcome State Fault Refusal} (h : BlindO f) :
    BlindO fun s => onPort a (f s) := fun s c => by
  unfold Machine.onPort
  split_ifs
  · exact ⟨c, rfl⟩
  · exact ⟨c, rfl⟩
  · exact h s c

theorem blindO_hostWrite (a : Nat) (v : Word) : BlindO (hostWrite a v) := by
  refine .onPort a ?_
  cases regAt a with
  | none => exact .next blind_id
  | some r =>
    cases r with
    | cmd => exact blindO_runWord v
    | _ => exact .next (blind_writeReg v _)

theorem blind_reset : Blind resetEvent := fun s _ => ⟨(resetEvent s).errCnt, rfl⟩

/-- Settles O53: every input but a host read is an operation that is blind to the counters. -/
theorem countersGateNothing : Obligations.CountersGateNothing := by
  intro s c hNoRead
  suffices h : ∃ c', step (withCounters s c) =
      match step s with
      | .next t => .next (withCounters t c')
      | .fault e => .fault e
      | .refused r => .refused r from h
  have hInputs : (withCounters s c).env.inputs = s.env.inputs := rfl
  unfold step
  rw [hInputs]
  cases hNext : s.env.inputs with
  | nil => exact BlindO.next blind_seqStep s c
  | cons i rest =>
    have hTake : BlindO (takeInput i) := by
      cases i with
      | hostRead a => exact absurd (by rw [hNext]; rfl) (hNoRead a)
      | hostWrite a v => exact blindO_hostWrite a v
      | sequencer => exact .next blind_seqStep
      | reset => exact .next blind_reset
    exact hTake.comp (f := fun s => withInputs s rest) (fun _ _ => rfl) s c

end Sys2Proof.Machine
